-- ==== Sys2Proof/Word.lean ====
section
/-! DEFINITION. The two widths of the machine: the byte and the word (00_scope.md R9). -/

namespace Sys2Proof

/-- A byte, 8 bits: a general register, a memory byte, a port byte (R9). -/
abbrev Byte := BitVec 8

/-- A word, 16 bits: `PC`, `SP`, a register pair, a memory address (R9). -/
abbrev Word := BitVec 16

end Sys2Proof
end

