-- ==== Sys2Proof/Machine/Bits.lean ====
section
/-! DEFINITION. The bit-field, extension and byte-order helpers of the notation (00_scope.md R9, R10; 20_memory.md R53). -/

namespace Sys2Proof

/-- `w[15:8]` (R9). -/
def hiByte (w : Word) : Byte := w.extractLsb' 8 8

/-- `w[7:0]` (R9). -/
def loByte (w : Word) : Byte := w.extractLsb' 0 8

/-- `{hi, lo} = hi * 256 + lo` (R9, R89). -/
def wordOf (hi lo : Byte) : Word := hi ++ lo

/-- `sext_16(d)`: sign extension to 16 bits (R10). -/
def sext16 (d : Byte) : Word := d.signExtend 16

/-- `zext_16(b)`: zero extension to 16 bits (R10). -/
def zext16 (b : Byte) : Word := b.setWidth 16

end Sys2Proof
end

