-- ==== Sys2Proof/Config.lean ====
section
/-! DEFINITION. What the environment, not the ISA, decides (00_scope.md R8, 92_eei_decisions.md section 4):
the parameters `INIT_PC`, `INIT_SP`, `MEM0` and `PORTS`. -/

namespace Sys2Proof.Config

/-- `MEM0` (R51, R353): the byte an address holds that neither the loader nor the program has written.
A free value: "arbitrary but fixed", so no body. Log entry 1. -/
opaque mem0 : Word → Byte

/-- `PORTS` (R70): the answer of an attached port capability to its `n`-th read, made at port `p`.
A free value: "not constrained by the core". Log entry 2. -/
opaque portAnswer : Nat → Byte → Byte

/-- `INIT_PC` of `State.reset`: the recommended value (R8). DESIGN CHOICE, log entry 3. -/
def initPc : Word := 0x0200

/-- `INIT_SP` of `State.reset`: the recommended value (R8). DESIGN CHOICE, log entry 3. -/
def initSp : Word := 0x01FE

end Sys2Proof.Config
end

