-- ==== Sys2Proof/Machine/State.lean ====
section
/-! DEFINITION. The state of the Micro8 core as plain data (10_state.md), the outcomes that are no next state, and
the state after reset. -/

namespace Sys2Proof.Machine

/-- The eight general registers (R20). The pairs are views of them, no storage of their own (R22). -/
structure Regs where
  r0 : Byte
  r1 : Byte
  r2 : Byte
  r3 : Byte
  r4 : Byte
  r5 : Byte
  r6 : Byte
  r7 : Byte
deriving DecidableEq, Repr

/-- The four live flags (R27 to R31). The reserved bits of the flags byte hold no state (R33). -/
structure Flags where
  /-- Sign (R28). -/
  s : Bool
  /-- Zero (R29). -/
  z : Bool
  /-- Signed overflow (R30). -/
  o : Bool
  /-- Carry, or borrow after a subtraction (R31). -/
  c : Bool
deriving DecidableEq, Repr

/-- `RUN` (R36). -/
inductive RunState
  | running
  | halted
  | faulted
deriving DecidableEq, Repr

/-- `FAULT_REASON` (R37). Only `none` and `invalidOpcode` are ever recorded (R304). -/
inductive FaultReason
  | none
  | invalidOpcode
  | stackOverflow
  | stackUnderflow
  | memoryOutOfRange
deriving DecidableEq, Repr

/-- The host's end of the port interface (R70, R71): the model's own record of `PORTS`, no core state. -/
structure Ports where
  /-- Whether the host has attached a read and write capability. -/
  attached : Bool
  /-- How many reads an attached capability has answered. -/
  reads : Nat
  /-- The output events `(port, value)`, oldest first. -/
  written : List (Byte × Byte)
deriving DecidableEq, Repr

/-- The whole state: the core (R20 to R37), its memory (R50) and the host's end of the port interface. -/
structure State where
  /-- `R0..R7` (R20). -/
  regs : Regs
  /-- `SP` (R24). -/
  sp : Word
  /-- `PC` (R25). -/
  pc : Word
  /-- `F` (R27). -/
  flags : Flags
  /-- `IE` (R34). -/
  ie : Bool
  /-- `IRQP` (R35). -/
  irqp : Bool
  /-- `RUN` (R36). -/
  run : RunState
  /-- `FAULT_REASON` (R37). -/
  faultReason : FaultReason
  /-- The bytes written so far, as address and byte, addresses strictly rising (R50, R51). -/
  mem : List Host.Cell
  /-- The port interface (R70, R71). -/
  ports : Ports
deriving DecidableEq, Repr

/-- The reasons a step stops with no next state: there are none. An invalid instruction is the spec's own fault
transition, a next state with `RUN = FAULTED` (R302), and no instruction faults in execution (R305). -/
inductive Fault
deriving DecidableEq, Repr

/-- The instructions the model gives no meaning. -/
inductive Refusal
  /-- An arm of `exec` with no meaning yet; no arm answers with it. Safe: it stops. -/
  | notModelled (mnemonic : String)
deriving DecidableEq, Repr

/-- The machine after reset with nothing loaded (R42, R350). `PC` and `SP` are the caller's; the recommended values
stand here (log entry 3), and no port capability is attached (R8, log entry 2). -/
def State.reset : State where
  regs := ⟨0, 0, 0, 0, 0, 0, 0, 0⟩
  sp := Config.initSp
  pc := Config.initPc
  flags := ⟨false, false, false, false⟩
  ie := false
  irqp := false
  run := .running
  faultReason := .none
  mem := []
  ports := ⟨false, 0, []⟩

end Sys2Proof.Machine
end

