-- ==== Sys2Proof/Machine/Flags.lean ====
section
/-! DEFINITION. The flags byte and every flag computation: the ALU's pure transforms, each giving a result and the
flags after it (41_alu_arith_logic.md R150 to R158, 42_alu_shift_rotate_16bit.md R200, R212). -/

namespace Sys2Proof.Machine

/-! ### The flags byte -/

/-- The byte image `F`: `S` in bit 7, `Z` in 6, `O` in 2, `C` in 0, the others 0 (R27). -/
def Flags.image (f : Flags) : Byte :=
  (BitVec.ofBool f.s ++ BitVec.ofBool f.z ++ 0#3 ++ BitVec.ofBool f.o ++ 0#1 ++ BitVec.ofBool f.c : Byte)

/-- The flags a byte loads; bits 5, 4, 3 and 1 are discarded (R33, R270). -/
def Flags.ofImage (v : Byte) : Flags where
  s := v.getLsbD 7
  z := v.getLsbD 6
  o := v.getLsbD 2
  c := v.getLsbD 0

/-! ### 8-bit transforms -/

/-- What an ALU transform gives: the result and the flags after it. -/
structure AluResult where
  value : Byte
  flags : Flags
deriving DecidableEq, Repr

/-- R150: `Z` and `S` from the 8-bit result; `O` and `C` as the transform says. -/
def aluResult (r : Byte) (o c : Bool) : AluResult where
  value := r
  flags := { s := r.msb, z := decide (r = 0), o := o, c := c }

/-- `add8(a, b, cin)` (R151): the carry over the exact sum, the overflow from the original `b` (R152). -/
def add8 (a b : Byte) (cin : Bool) : AluResult :=
  let sum9 := a.toNat + b.toNat + cin.toNat
  let r := BitVec.ofNat 8 sum9
  aluResult r (decide (a.msb = b.msb ∧ r.msb ≠ a.msb)) (decide (sum9 > 255))

/-- `sub8(a, b, bin)` (R153): `C = 1` means a borrow was needed; the overflow from the original `b` (R154). -/
def sub8 (a b : Byte) (bin : Bool) : AluResult :=
  let diff : Int := a.toNat - b.toNat - bin.toNat
  let r := BitVec.ofInt 8 diff
  aluResult r (decide (a.msb ≠ b.msb ∧ r.msb ≠ a.msb)) (decide (diff < 0))

/-- `neg8(a) = sub8(0x00, a, 0)` (R155). -/
def neg8 (a : Byte) : AluResult := sub8 0x00 a false

/-- `inc8(a)` (R156): `C` unchanged. -/
def inc8 (a : Byte) (f : Flags) : AluResult :=
  aluResult (a + 1) (decide (a = 0x7F)) f.c

/-- `dec8(a)` (R156): `C` unchanged. -/
def dec8 (a : Byte) (f : Flags) : AluResult :=
  aluResult (a - 1) (decide (a = 0x80)) f.c

/-- A logic result (R157): `C` and `O` cleared. -/
def logic8 (r : Byte) : AluResult := aluResult r false false

/-! ### Shifts, rotates, SWAP -/

/-- A shift or rotate result (R200): `C` is the bit shifted out, `O` unchanged. -/
def shifted (r : Byte) (out : Bool) (f : Flags) : AluResult := aluResult r f.o out

/-- `SHL`: `r[7:1] = a[6:0]`, `r[0] = 0` (R201). -/
def shl8 (a : Byte) (f : Flags) : AluResult :=
  shifted (a.extractLsb' 0 7 ++ 0#1) (a.getLsbD 7) f

/-- `SHR`: `r[6:0] = a[7:1]`, `r[7] = 0` (R202). -/
def shr8 (a : Byte) (f : Flags) : AluResult :=
  shifted (0#1 ++ a.extractLsb' 1 7) (a.getLsbD 0) f

/-- `SAR`: `r = {a[7], a[7:1]}` (R203). -/
def sar8 (a : Byte) (f : Flags) : AluResult :=
  shifted (BitVec.ofBool (a.getLsbD 7) ++ a.extractLsb' 1 7) (a.getLsbD 0) f

/-- `ROL`: `r = {a[6:0], C}` (R204). -/
def rol8 (a : Byte) (f : Flags) : AluResult :=
  shifted (a.extractLsb' 0 7 ++ BitVec.ofBool f.c) (a.getLsbD 7) f

/-- `ROR`: `r = {C, a[7:1]}` (R205). -/
def ror8 (a : Byte) (f : Flags) : AluResult :=
  shifted (BitVec.ofBool f.c ++ a.extractLsb' 1 7) (a.getLsbD 0) f

/-- `SWAP`: `r = {a[3:0], a[7:4]}`; `C` and `O` unchanged (R206). -/
def swap8 (a : Byte) (f : Flags) : AluResult :=
  aluResult (a.extractLsb' 0 4 ++ a.extractLsb' 4 4) f.o f.c

/-! ### 16-bit arithmetic -/

/-- The flags after a 16-bit arithmetic result: `Z` and `S` at its width, `C` and `O` unchanged (R212). -/
def flags16 (r : Word) (f : Flags) : Flags :=
  { s := r.msb, z := decide (r = 0), o := f.o, c := f.c }

/-! ### Branch conditions -/

/-- The eight predicates of R221 and the unconditional one. -/
inductive Cond
  | always | z | nz | c | nc | s | ns | o | no
deriving DecidableEq, Repr

/-- When a predicate is true (R221). -/
def Cond.holds : Cond → Flags → Bool
  | .always, _ => true
  | .z, f => f.z
  | .nz, f => !f.z
  | .c, f => f.c
  | .nc, f => !f.c
  | .s, f => f.s
  | .ns, f => !f.s
  | .o, f => f.o
  | .no, f => !f.o

end Sys2Proof.Machine
end

