-- ==== Sys2Proof/Machine/Memory.lean ====
section
/-! DEFINITION. Memory as a list of cells in one canonical form, and its two accesses (20_memory.md R50 to R52).

An unlisted address holds no value of its own: nobody has written it, and a read of it gives the parameter `MEM0`
(R51), which the model leaves free. Log entry 1. -/

namespace Sys2Proof.Machine

/-- Addresses strictly rise from `lo` on, and each lies in the 65536-byte space. -/
def Memory.risingFrom : Nat → List Host.Cell → Bool
  | _, [] => true
  | lo, (a, _) :: rest => decide (lo ≤ a) && decide (a < 65536) && Memory.risingFrom (a + 1) rest

/-- The canonical form: addresses strictly rising and below 65536, so each address has at most one cell. -/
def Memory.wf (m : List Host.Cell) : Bool := Memory.risingFrom 0 m

/-- The byte written at an address; `none` where nothing has been written. -/
def Memory.written : List Host.Cell → Nat → Option Byte
  | [], _ => none
  | (b, v) :: rest, a => if a = b then some v else Memory.written rest a

/-- Makes `v` the byte written at an address, in address order. -/
def Memory.store : List Host.Cell → Nat → Byte → List Host.Cell
  | [], a, v => [(a, v)]
  | (b, w) :: rest, a, v =>
    if a < b then (a, v) :: (b, w) :: rest
    else if a = b then (a, v) :: rest
    else (b, w) :: Memory.store rest a v

/-- `MemRead(addr, 1)` (R51): the byte last written, or `MEM0[addr]`. It never faults. -/
def Memory.read (m : List Host.Cell) (a : Word) : Byte :=
  match Memory.written m a.toNat with
  | some v => v
  | none => Config.mem0 a

/-- `MemWrite(addr, 1, v)` (R52): every address can be written; no other byte changes. -/
def Memory.write (m : List Host.Cell) (a : Word) (v : Byte) : List Host.Cell :=
  Memory.store m a.toNat v

end Sys2Proof.Machine
end

