-- ==== Sys2Proof/Syntax.lean ====
section
/-! DEFINITION. The syntax of the Micro8 ISA: registers, pairs, and one constructor of `Instr` per row of
spec/opcode_table.json, in the table's order (30_encoding.md R90). -/

namespace Sys2Proof

/-- The eight general registers `R0..R7` (R20). -/
inductive Reg
  | r0 | r1 | r2 | r3 | r4 | r5 | r6 | r7
deriving DecidableEq, Repr

/-- The pair codes 0 = `BC`, 1 = `DE`, 2 = `HL`, 3 = `SP` (R23, R84). -/
inductive Pair
  | bc | de | hl | sp
deriving DecidableEq, Repr

/-- The 76 instructions of R90. Operands stand in the order of their bytes (R81), destination before source. -/
inductive Instr
  /-- `NOP`, `0x00` (R295). -/
  | nop
  /-- `HLT`, `0x01` (R296). -/
  | hlt
  /-- `EI`, `0x02` (R285). -/
  | ei
  /-- `DI`, `0x03` (R286). -/
  | di
  /-- `SCF`, `0x04` (R280). -/
  | scf
  /-- `CCF`, `0x05` (R281). -/
  | ccf
  /-- `CMF`, `0x06` (R282). -/
  | cmf
  /-- `RET`, `0x07` (R242). -/
  | ret
  /-- `RETI`, `0x08` (R287). -/
  | reti
  /-- `PUSHF`, `0x09` (R268). -/
  | pushf
  /-- `POPF`, `0x0A` (R270). -/
  | popf
  /-- `JP HL`, `0x0B` (R240). -/
  | jpHl
  /-- `MOV Rd, Rs`, `0x10` (R121). -/
  | mov (d r : Reg)
  /-- `LDI Rd, imm8`, `0x11` (R122). -/
  | ldi (d : Reg) (imm : Byte)
  /-- `LD Rd, [a16]`, `0x12` (R123). -/
  | ldAbs (d : Reg) (a : Word)
  /-- `LD Rd, [HL]`, `0x13` (R124). -/
  | ldHl (d : Reg)
  /-- `LD Rd, [HL+d8]`, `0x14` (R125). -/
  | ldHlD (d : Reg) (disp : Byte)
  /-- `ST [a16], Rs`, `0x15` (R126). -/
  | stAbs (r : Reg) (a : Word)
  /-- `ST [HL], Rs`, `0x16` (R127). -/
  | stHl (r : Reg)
  /-- `ST [HL+d8], Rs`, `0x17` (R128). -/
  | stHlD (r : Reg) (disp : Byte)
  /-- `LDZ Rd, [zp]`, `0x18` (R129). -/
  | ldz (d : Reg) (zp : Byte)
  /-- `STZ [zp], Rs`, `0x19` (R130). -/
  | stz (r : Reg) (zp : Byte)
  /-- `LDI16 rp, imm16`, `0x1A` (R131); the one instruction that admits `SP` as its pair. -/
  | ldi16 (p : Pair) (imm : Word)
  /-- `MOV16 rpd, rps`, `0x1B` (R132). -/
  | mov16 (pd ps : Pair)
  /-- `IN Rd, p8`, `0x1C` (R135). -/
  | inPort (d : Reg) (port : Byte)
  /-- `OUT p8, Rs`, `0x1D` (R136). -/
  | outPort (r : Reg) (port : Byte)
  /-- `ADD Rd, Rs`, `0x20` (R160). -/
  | add (d r : Reg)
  /-- `ADC Rd, Rs`, `0x21` (R161). -/
  | adc (d r : Reg)
  /-- `SUB Rd, Rs`, `0x22` (R162). -/
  | sub (d r : Reg)
  /-- `SBC Rd, Rs`, `0x23` (R163). -/
  | sbc (d r : Reg)
  /-- `CMP Rd, Rs`, `0x24` (R164). -/
  | cmp (d r : Reg)
  /-- `AND Rd, Rs`, `0x25` (R165). -/
  | and (d r : Reg)
  /-- `OR Rd, Rs`, `0x26` (R166). -/
  | or (d r : Reg)
  /-- `XOR Rd, Rs`, `0x27` (R167). -/
  | xor (d r : Reg)
  /-- `ADDI Rd, imm8`, `0x28` (R168). -/
  | addi (d : Reg) (imm : Byte)
  /-- `SUBI Rd, imm8`, `0x29` (R169). -/
  | subi (d : Reg) (imm : Byte)
  /-- `CMPI Rd, imm8`, `0x2A` (R170). -/
  | cmpi (d : Reg) (imm : Byte)
  /-- `ANDI Rd, imm8`, `0x2B` (R171). -/
  | andi (d : Reg) (imm : Byte)
  /-- `ORI Rd, imm8`, `0x2C` (R172). -/
  | ori (d : Reg) (imm : Byte)
  /-- `XORI Rd, imm8`, `0x2D` (R173). -/
  | xori (d : Reg) (imm : Byte)
  /-- `INC Rd`, `0x30` (R174). -/
  | inc (d : Reg)
  /-- `DEC Rd`, `0x31` (R175). -/
  | dec (d : Reg)
  /-- `NEG Rd`, `0x32` (R176). -/
  | neg (d : Reg)
  /-- `NOT Rd`, `0x33` (R177). -/
  | not (d : Reg)
  /-- `SHL Rd`, `0x34` (R201). -/
  | shl (d : Reg)
  /-- `SHR Rd`, `0x35` (R202). -/
  | shr (d : Reg)
  /-- `SAR Rd`, `0x36` (R203). -/
  | sar (d : Reg)
  /-- `ROL Rd`, `0x37` (R204). -/
  | rol (d : Reg)
  /-- `ROR Rd`, `0x38` (R205). -/
  | ror (d : Reg)
  /-- `SWAP Rd`, `0x39` (R206). -/
  | swap (d : Reg)
  /-- `INC16 rp`, `0x3A` (R213). -/
  | inc16 (p : Pair)
  /-- `DEC16 rp`, `0x3B` (R214). -/
  | dec16 (p : Pair)
  /-- `ADD16 rpd, rps`, `0x3C` (R215). -/
  | add16 (pd ps : Pair)
  /-- `JMP a16`, `0x40` (R222). -/
  | jmp (a : Word)
  /-- `JZ a16`, `0x41` (R223). -/
  | jz (a : Word)
  /-- `JNZ a16`, `0x42` (R224). -/
  | jnz (a : Word)
  /-- `JC a16`, `0x43` (R225). -/
  | jc (a : Word)
  /-- `JNC a16`, `0x44` (R226). -/
  | jnc (a : Word)
  /-- `JS a16`, `0x45` (R227). -/
  | js (a : Word)
  /-- `JNS a16`, `0x46` (R228). -/
  | jns (a : Word)
  /-- `JO a16`, `0x47` (R229). -/
  | jo (a : Word)
  /-- `JNO a16`, `0x48` (R230). -/
  | jno (a : Word)
  /-- `JR off8`, `0x50` (R231). -/
  | jr (off : Byte)
  /-- `JRZ off8`, `0x51` (R232). -/
  | jrz (off : Byte)
  /-- `JRNZ off8`, `0x52` (R233). -/
  | jrnz (off : Byte)
  /-- `JRC off8`, `0x53` (R234). -/
  | jrc (off : Byte)
  /-- `JRNC off8`, `0x54` (R235). -/
  | jrnc (off : Byte)
  /-- `JRS off8`, `0x55` (R236). -/
  | jrs (off : Byte)
  /-- `JRNS off8`, `0x56` (R237). -/
  | jrns (off : Byte)
  /-- `JRO off8`, `0x57` (R238). -/
  | jro (off : Byte)
  /-- `JRNO off8`, `0x58` (R239). -/
  | jrno (off : Byte)
  /-- `CALL a16`, `0x60` (R241). -/
  | call (a : Word)
  /-- `PUSH Rs`, `0x61` (R261). -/
  | push (r : Reg)
  /-- `POP Rd`, `0x62` (R262). -/
  | pop (d : Reg)
  /-- `PUSH16 rp`, `0x63` (R263). -/
  | push16 (p : Pair)
  /-- `POP16 rp`, `0x64` (R264). -/
  | pop16 (p : Pair)
deriving DecidableEq, Repr

end Sys2Proof
end

