-- ==== Sys2Proof/Machine/Ops.lean ====
section
/-! DEFINITION. The named operations over registers, memory, stack and ports, the fault transition, and interrupt
entry and return, each stated once (10_state.md, 20_memory.md, 60_exceptions.md). -/

namespace Sys2Proof.Machine

/-! ### Registers -/

/-- Read of a general register. -/
def Regs.get (x : Regs) : Reg → Byte
  | .r0 => x.r0
  | .r1 => x.r1
  | .r2 => x.r2
  | .r3 => x.r3
  | .r4 => x.r4
  | .r5 => x.r5
  | .r6 => x.r6
  | .r7 => x.r7

/-- Write of a general register. -/
def Regs.set (x : Regs) (r : Reg) (v : Byte) : Regs :=
  match r with
  | .r0 => { x with r0 := v }
  | .r1 => { x with r1 := v }
  | .r2 => { x with r2 := v }
  | .r3 => { x with r3 := v }
  | .r4 => { x with r4 := v }
  | .r5 => { x with r5 := v }
  | .r6 => { x with r6 := v }
  | .r7 => { x with r7 := v }

/-- `x[i]` (R10). -/
def State.reg (s : State) (r : Reg) : Byte := s.regs.get r

/-- `x[i] <- v` (R10). -/
def State.setReg (s : State) (r : Reg) (v : Byte) : State := { s with regs := s.regs.set r v }

/-- `SP <- w`. -/
def State.setSp (s : State) (w : Word) : State := { s with sp := w }

/-- `PC <- w`. -/
def State.setPc (s : State) (w : Word) : State := { s with pc := w }

/-- All four flags written. -/
def State.setFlags (s : State) (f : Flags) : State := { s with flags := f }

/-- `F.C <- b`, the other flags unchanged. -/
def State.setCarry (s : State) (b : Bool) : State := { s with flags := { s.flags with c := b } }

/-- `IE <- b`. -/
def State.setIe (s : State) (b : Bool) : State := { s with ie := b }

/-- `IRQP <- b`. -/
def State.setIrqp (s : State) (b : Bool) : State := { s with irqp := b }

/-- `RUN <- r`. -/
def State.setRun (s : State) (r : RunState) : State := { s with run := r }

/-- The high register of a pair of general registers (R22); `SP` has none, and its value is not used. -/
def pairHigh : Pair → Reg
  | .bc => .r1
  | .de => .r3
  | .hl => .r5
  | .sp => .r5

/-- The low register of a pair of general registers (R22); `SP` has none, and its value is not used. -/
def pairLow : Pair → Reg
  | .bc => .r2
  | .de => .r4
  | .hl => .r6
  | .sp => .r6

/-- `rp[p]` (R10, R23): high byte first, `SP` for code 3. -/
def State.pair (s : State) (p : Pair) : Word :=
  match p with
  | .sp => s.sp
  | .bc | .de | .hl => wordOf (s.reg (pairHigh p)) (s.reg (pairLow p))

/-- `rp[p] <- v` (R10, R23): both registers in one write, `SP` for code 3. -/
def State.setPair (s : State) (p : Pair) (v : Word) : State :=
  match p with
  | .sp => s.setSp v
  | .bc | .de | .hl => (s.setReg (pairHigh p) (hiByte v)).setReg (pairLow p) (loByte v)

/-- The shadow PC `npc` of an instruction of `len` bytes (R10, R26). -/
def State.npc (s : State) (len : Nat) : Word := s.pc + BitVec.ofNat 16 len

/-- `PC <- npc`: the commit of an instruction that does not redirect control (R26). `t` holds its other effects. -/
def State.advance (t : State) (len : Nat) : State := t.setPc (t.npc len)

/-! ### Memory and stack -/

/-- `MemRead(a, 1)` (R51). -/
def State.readByte (s : State) (a : Word) : Byte := Memory.read s.mem a

/-- `MemWrite(a, 1, v)` (R52). -/
def State.writeByte (s : State) (a : Word) (v : Byte) : State := { s with mem := Memory.write s.mem a v }

/-- `push8(v)` (R60): decrement, then store at the new `SP`. -/
def State.push8 (s : State) (v : Byte) : State := (s.setSp (s.sp - 1)).writeByte (s.sp - 1) v

/-- `push16(w)` (R62): the high byte first. -/
def State.push16 (s : State) (w : Word) : State := (s.push8 (hiByte w)).push8 (loByte w)

/-- The byte `pop8()` returns (R61): the byte at the current `SP`. -/
def State.top8 (s : State) : Byte := s.readByte s.sp

/-- The state after `pop8()` (R61): `SP` one higher; the byte stays in memory. -/
def State.drop8 (s : State) : State := s.setSp (s.sp + 1)

/-- The word `pop16()` returns (R63): the low byte popped first. -/
def State.top16 (s : State) : Word := wordOf s.drop8.top8 s.top8

/-- The state after `pop16()` (R63). -/
def State.drop16 (s : State) : State := s.drop8.drop8

/-! ### Ports -/

/-- `PortRead(p)` (R70): 0 with no capability attached, else the host's free answer. -/
def State.portIn (s : State) (p : Byte) : Byte :=
  if s.ports.attached then Config.portAnswer s.ports.reads p else 0

/-- The state after `PortRead(p)`: an attached capability has answered one more read. No core state changes (R70). -/
def State.countRead (s : State) : State :=
  if s.ports.attached then { s with ports := { s.ports with reads := s.ports.reads + 1 } } else s

/-- `PortWrite(p, v)` (R71): one more output event. No core state changes. -/
def State.portOut (s : State) (p v : Byte) : State :=
  { s with ports := { s.ports with written := s.ports.written ++ [(p, v)] } }

/-! ### Faults and the interrupt -/

/-- `raise <reason>` (R302): `RUN` and `FAULT_REASON` change and nothing else. -/
def State.raiseFault (s : State) (reason : FaultReason) : State :=
  { s with run := .faulted, faultReason := reason }

/-- The address of the interrupt vector's low byte (R57). -/
def vectorLow : Word := 0x01FE

/-- The address of the interrupt vector's high byte (R57). -/
def vectorHigh : Word := 0x01FF

/-- The interrupt vector (R57): two bytes of memory, low byte first. -/
def State.vector (s : State) : Word := wordOf (s.readByte vectorHigh) (s.readByte vectorLow)

/-- Interrupt entry (R319): `IE` and `IRQP` cleared, `PC` pushed, the vector read after the push, `RUN` running. -/
def State.enterInterrupt (s : State) : State :=
  let t := ((s.setIe false).setIrqp false).push16 s.pc
  (t.setPc t.vector).setRun .running

/-- The return from an interrupt (R287, R325): `PC` popped as by `RET`, `IE` set. -/
def State.returnFromInterrupt (s : State) : State :=
  (s.drop16.setPc s.top16).setIe true

/-- `CHECK_INTERRUPT` (R318): the entry when `IE = 1` and `IRQP = 1`, evaluated on this state. -/
def State.checkInterrupt (s : State) : State :=
  if s.ie && s.irqp then s.enterInterrupt else s

/-- The end of a step (R100, R322): the interrupt check, which a faulted core skips. -/
def State.finishStep (s : State) : State :=
  match s.run with
  | .faulted => s
  | .running | .halted => s.checkInterrupt

end Sys2Proof.Machine
end

