-- ==== Sys2Proof/Machine/Operands.lean ====
section
/-! DEFINITION. The addressing-mode resolver (30_encoding.md R94 to R99) and the shapes that the meanings share: an
ALU result written back, a load, a store, a jump. Each ends with the instruction's update of `PC` (R26). -/

namespace Sys2Proof.Machine

/-- The memory operands of the mode table (R97 to R99). -/
inductive MemOperand
  /-- Direct `[a16]` (R97). -/
  | direct (a : Word)
  /-- Zero-page `[zp]` (R98). -/
  | zeroPage (zp : Byte)
  /-- Indirect `[HL]` (R99). -/
  | indirect
  /-- Indexed `[HL+d]`, `d` signed (R99). -/
  | indexed (disp : Byte)
deriving DecidableEq, Repr

/-- The effective address of a memory operand, from the current `HL` and wrapping (R97 to R99). No state changes. -/
def MemOperand.address (m : MemOperand) (s : State) : Word :=
  match m with
  | .direct a => a
  | .zeroPage zp => zext16 zp
  | .indirect => s.pair .hl
  | .indexed disp => s.pair .hl + sext16 disp

/-- The outcome of an instruction that ends with `PC <- npc`; `t` holds its other effects. -/
def retire (len : Nat) (t : State) : Host.Outcome State Fault Refusal := .next (t.advance len)

/-- `x[d] <- MemRead(ea, 1)` (R123 to R125, R129). -/
def loadReg (d : Reg) (m : MemOperand) (len : Nat) (s : State) : Host.Outcome State Fault Refusal :=
  retire len (s.setReg d (s.readByte (m.address s)))

/-- `MemWrite(ea, 1, x[r])` (R126 to R128, R130). -/
def storeReg (r : Reg) (m : MemOperand) (len : Nat) (s : State) : Host.Outcome State Fault Refusal :=
  retire len (s.writeByte (m.address s) (s.reg r))

/-- An ALU result written to `x[d]` with its flags. -/
def writeAlu (d : Reg) (res : AluResult) (len : Nat) (s : State) : Host.Outcome State Fault Refusal :=
  retire len ((s.setReg d res.value).setFlags res.flags)

/-- An ALU result whose flags alone are kept (R164, R170). -/
def compareAlu (res : AluResult) (len : Nat) (s : State) : Host.Outcome State Fault Refusal :=
  retire len (s.setFlags res.flags)

/-- A 16-bit arithmetic result written to a pair with its flags (R212). -/
def writeAlu16 (p : Pair) (r : Word) (len : Nat) (s : State) : Host.Outcome State Fault Refusal :=
  retire len ((s.setPair p r).setFlags (flags16 r s.flags))

/-- An instruction with pair operands that must not be `SP`; with `SP` it is the invalid instruction of R87, which
takes the fault transition. A decoded instruction never is (its decoder refuses the selector). -/
def withRegisterPairs (ps : List Pair) (s : State) (effect : Host.Outcome State Fault Refusal) :
    Host.Outcome State Fault Refusal :=
  if Pair.sp ∈ ps then .next (s.raiseFault .invalidOpcode) else effect

/-- A jump on a condition: to the target, or past the instruction (R220). -/
def jumpIf (cond : Cond) (target : Word) (len : Nat) (s : State) : Host.Outcome State Fault Refusal :=
  .next (s.setPc (if cond.holds s.flags then target else s.npc len))

/-- The target of a relative branch: the following instruction's address plus the signed offset (R231). -/
def State.relTarget (s : State) (off : Byte) : Word := s.npc 2 + sext16 off

end Sys2Proof.Machine
end

