-- ==== Sys2Proof/Machine/Alu.lean ====
section
/-! DEFINITION. 8-bit arithmetic and logic: the 18 instructions of 41_alu_arith_logic.md. -/

namespace Sys2Proof.Machine

/-! ### Two registers (R160 to R167) -/

/-- `ADD Rd, Rs` (R160). -/
def execAdd (d r : Reg) (s : State) : Host.Outcome State Fault Refusal :=
  writeAlu d (add8 (s.reg d) (s.reg r) false) 2 s

/-- `ADC Rd, Rs` (R161). -/
def execAdc (d r : Reg) (s : State) : Host.Outcome State Fault Refusal :=
  writeAlu d (add8 (s.reg d) (s.reg r) s.flags.c) 2 s

/-- `SUB Rd, Rs` (R162). -/
def execSub (d r : Reg) (s : State) : Host.Outcome State Fault Refusal :=
  writeAlu d (sub8 (s.reg d) (s.reg r) false) 2 s

/-- `SBC Rd, Rs` (R163). -/
def execSbc (d r : Reg) (s : State) : Host.Outcome State Fault Refusal :=
  writeAlu d (sub8 (s.reg d) (s.reg r) s.flags.c) 2 s

/-- `CMP Rd, Rs` (R164); the result is discarded. -/
def execCmp (d r : Reg) (s : State) : Host.Outcome State Fault Refusal :=
  compareAlu (sub8 (s.reg d) (s.reg r) false) 2 s

/-- `AND Rd, Rs` (R165). -/
def execAnd (d r : Reg) (s : State) : Host.Outcome State Fault Refusal :=
  writeAlu d (logic8 (s.reg d &&& s.reg r)) 2 s

/-- `OR Rd, Rs` (R166). -/
def execOr (d r : Reg) (s : State) : Host.Outcome State Fault Refusal :=
  writeAlu d (logic8 (s.reg d ||| s.reg r)) 2 s

/-- `XOR Rd, Rs` (R167). -/
def execXor (d r : Reg) (s : State) : Host.Outcome State Fault Refusal :=
  writeAlu d (logic8 (s.reg d ^^^ s.reg r)) 2 s

/-! ### Register and immediate (R168 to R173) -/

/-- `ADDI Rd, imm8` (R168). -/
def execAddi (d : Reg) (imm : Byte) (s : State) : Host.Outcome State Fault Refusal :=
  writeAlu d (add8 (s.reg d) imm false) 3 s

/-- `SUBI Rd, imm8` (R169). -/
def execSubi (d : Reg) (imm : Byte) (s : State) : Host.Outcome State Fault Refusal :=
  writeAlu d (sub8 (s.reg d) imm false) 3 s

/-- `CMPI Rd, imm8` (R170); the result is discarded. -/
def execCmpi (d : Reg) (imm : Byte) (s : State) : Host.Outcome State Fault Refusal :=
  compareAlu (sub8 (s.reg d) imm false) 3 s

/-- `ANDI Rd, imm8` (R171). -/
def execAndi (d : Reg) (imm : Byte) (s : State) : Host.Outcome State Fault Refusal :=
  writeAlu d (logic8 (s.reg d &&& imm)) 3 s

/-- `ORI Rd, imm8` (R172). -/
def execOri (d : Reg) (imm : Byte) (s : State) : Host.Outcome State Fault Refusal :=
  writeAlu d (logic8 (s.reg d ||| imm)) 3 s

/-- `XORI Rd, imm8` (R173). -/
def execXori (d : Reg) (imm : Byte) (s : State) : Host.Outcome State Fault Refusal :=
  writeAlu d (logic8 (s.reg d ^^^ imm)) 3 s

/-! ### One register (R174 to R177) -/

/-- `INC Rd` (R174). -/
def execInc (d : Reg) (s : State) : Host.Outcome State Fault Refusal :=
  writeAlu d (inc8 (s.reg d) s.flags) 2 s

/-- `DEC Rd` (R175). -/
def execDec (d : Reg) (s : State) : Host.Outcome State Fault Refusal :=
  writeAlu d (dec8 (s.reg d) s.flags) 2 s

/-- `NEG Rd` (R176). -/
def execNeg (d : Reg) (s : State) : Host.Outcome State Fault Refusal :=
  writeAlu d (neg8 (s.reg d)) 2 s

/-- `NOT Rd` (R177). -/
def execNot (d : Reg) (s : State) : Host.Outcome State Fault Refusal :=
  writeAlu d (logic8 (~~~ s.reg d)) 2 s

end Sys2Proof.Machine
end

