-- ==== Sys2Proof/Machine/Control.lean ====
section
/-! DEFINITION. Control transfer: the 21 instructions of 43_control_flow.md. None changes a flag or a general register (R220). -/

namespace Sys2Proof.Machine

/-! ### Absolute jumps (R222 to R230) -/

/-- `JMP a16` (R222). -/
def execJmp (a : Word) (s : State) : Host.Outcome State Fault Refusal :=
  jumpIf .always a 3 s

/-- `JZ a16` (R223). -/
def execJz (a : Word) (s : State) : Host.Outcome State Fault Refusal :=
  jumpIf .z a 3 s

/-- `JNZ a16` (R224). -/
def execJnz (a : Word) (s : State) : Host.Outcome State Fault Refusal :=
  jumpIf .nz a 3 s

/-- `JC a16` (R225). -/
def execJc (a : Word) (s : State) : Host.Outcome State Fault Refusal :=
  jumpIf .c a 3 s

/-- `JNC a16` (R226). -/
def execJnc (a : Word) (s : State) : Host.Outcome State Fault Refusal :=
  jumpIf .nc a 3 s

/-- `JS a16` (R227). -/
def execJs (a : Word) (s : State) : Host.Outcome State Fault Refusal :=
  jumpIf .s a 3 s

/-- `JNS a16` (R228). -/
def execJns (a : Word) (s : State) : Host.Outcome State Fault Refusal :=
  jumpIf .ns a 3 s

/-- `JO a16` (R229). -/
def execJo (a : Word) (s : State) : Host.Outcome State Fault Refusal :=
  jumpIf .o a 3 s

/-- `JNO a16` (R230). -/
def execJno (a : Word) (s : State) : Host.Outcome State Fault Refusal :=
  jumpIf .no a 3 s

/-! ### Relative jumps (R231 to R239) -/

/-- `JR off8` (R231). -/
def execJr (off : Byte) (s : State) : Host.Outcome State Fault Refusal :=
  jumpIf .always (s.relTarget off) 2 s

/-- `JRZ off8` (R232). -/
def execJrz (off : Byte) (s : State) : Host.Outcome State Fault Refusal :=
  jumpIf .z (s.relTarget off) 2 s

/-- `JRNZ off8` (R233). -/
def execJrnz (off : Byte) (s : State) : Host.Outcome State Fault Refusal :=
  jumpIf .nz (s.relTarget off) 2 s

/-- `JRC off8` (R234). -/
def execJrc (off : Byte) (s : State) : Host.Outcome State Fault Refusal :=
  jumpIf .c (s.relTarget off) 2 s

/-- `JRNC off8` (R235). -/
def execJrnc (off : Byte) (s : State) : Host.Outcome State Fault Refusal :=
  jumpIf .nc (s.relTarget off) 2 s

/-- `JRS off8` (R236). -/
def execJrs (off : Byte) (s : State) : Host.Outcome State Fault Refusal :=
  jumpIf .s (s.relTarget off) 2 s

/-- `JRNS off8` (R237). -/
def execJrns (off : Byte) (s : State) : Host.Outcome State Fault Refusal :=
  jumpIf .ns (s.relTarget off) 2 s

/-- `JRO off8` (R238). -/
def execJro (off : Byte) (s : State) : Host.Outcome State Fault Refusal :=
  jumpIf .o (s.relTarget off) 2 s

/-- `JRNO off8` (R239). -/
def execJrno (off : Byte) (s : State) : Host.Outcome State Fault Refusal :=
  jumpIf .no (s.relTarget off) 2 s

/-! ### Register-indirect jump, call, return (R240 to R242) -/

/-- `JP HL` (R240): to the value of `HL`. -/
def execJpHl (s : State) : Host.Outcome State Fault Refusal :=
  .next (s.setPc (s.pair .hl))

/-- `CALL a16` (R241): the following instruction's address pushed, high byte first. -/
def execCall (a : Word) (s : State) : Host.Outcome State Fault Refusal :=
  .next ((s.push16 (s.npc 3)).setPc a)

/-- `RET` (R242); `IE` is not touched. -/
def execRet (s : State) : Host.Outcome State Fault Refusal :=
  .next (s.drop16.setPc s.top16)

end Sys2Proof.Machine
end

