-- ==== Sys2Proof/Machine/DataMove.lean ====
section
/-! DEFINITION. Data movement and port I/O: the 14 instructions of 40_data_movement.md. None changes a flag (R120). -/

namespace Sys2Proof.Machine

/-- `MOV Rd, Rs` (R121). -/
def execMov (d r : Reg) (s : State) : Host.Outcome State Fault Refusal :=
  retire 2 (s.setReg d (s.reg r))

/-- `LDI Rd, imm8` (R122). -/
def execLdi (d : Reg) (imm : Byte) (s : State) : Host.Outcome State Fault Refusal :=
  retire 3 (s.setReg d imm)

/-- `LD Rd, [a16]` (R123). -/
def execLdAbs (d : Reg) (a : Word) (s : State) : Host.Outcome State Fault Refusal :=
  loadReg d (.direct a) 4 s

/-- `LD Rd, [HL]` (R124); the address is formed before the write. -/
def execLdHl (d : Reg) (s : State) : Host.Outcome State Fault Refusal :=
  loadReg d .indirect 2 s

/-- `LD Rd, [HL+d8]` (R125). -/
def execLdHlD (d : Reg) (disp : Byte) (s : State) : Host.Outcome State Fault Refusal :=
  loadReg d (.indexed disp) 3 s

/-- `ST [a16], Rs` (R126). -/
def execStAbs (r : Reg) (a : Word) (s : State) : Host.Outcome State Fault Refusal :=
  storeReg r (.direct a) 4 s

/-- `ST [HL], Rs` (R127). -/
def execStHl (r : Reg) (s : State) : Host.Outcome State Fault Refusal :=
  storeReg r .indirect 2 s

/-- `ST [HL+d8], Rs` (R128). -/
def execStHlD (r : Reg) (disp : Byte) (s : State) : Host.Outcome State Fault Refusal :=
  storeReg r (.indexed disp) 3 s

/-- `LDZ Rd, [zp]` (R129). -/
def execLdz (d : Reg) (zp : Byte) (s : State) : Host.Outcome State Fault Refusal :=
  loadReg d (.zeroPage zp) 3 s

/-- `STZ [zp], Rs` (R130). -/
def execStz (r : Reg) (zp : Byte) (s : State) : Host.Outcome State Fault Refusal :=
  storeReg r (.zeroPage zp) 3 s

/-- `LDI16 rp, imm16` (R131); `SP` is admitted. -/
def execLdi16 (p : Pair) (imm : Word) (s : State) : Host.Outcome State Fault Refusal :=
  retire 4 (s.setPair p imm)

/-- `MOV16 rpd, rps` (R132). -/
def execMov16 (pd ps : Pair) (s : State) : Host.Outcome State Fault Refusal :=
  withRegisterPairs [pd, ps] s (retire 2 (s.setPair pd (s.pair ps)))

/-- `IN Rd, p8` (R135). -/
def execInPort (d : Reg) (port : Byte) (s : State) : Host.Outcome State Fault Refusal :=
  retire 3 (s.countRead.setReg d (s.portIn port))

/-- `OUT p8, Rs` (R136). -/
def execOutPort (r : Reg) (port : Byte) (s : State) : Host.Outcome State Fault Refusal :=
  retire 3 (s.portOut port (s.reg r))

end Sys2Proof.Machine
end

