-- ==== Sys2Proof/Machine/Shift.lean ====
section
/-! DEFINITION. Shifts, rotates, SWAP and 16-bit arithmetic: the 9 instructions of 42_alu_shift_rotate_16bit.md. -/

namespace Sys2Proof.Machine

/-! ### Shifts and rotates by one bit (R200 to R206) -/

/-- `SHL Rd` (R201). -/
def execShl (d : Reg) (s : State) : Host.Outcome State Fault Refusal :=
  writeAlu d (shl8 (s.reg d) s.flags) 2 s

/-- `SHR Rd` (R202). -/
def execShr (d : Reg) (s : State) : Host.Outcome State Fault Refusal :=
  writeAlu d (shr8 (s.reg d) s.flags) 2 s

/-- `SAR Rd` (R203). -/
def execSar (d : Reg) (s : State) : Host.Outcome State Fault Refusal :=
  writeAlu d (sar8 (s.reg d) s.flags) 2 s

/-- `ROL Rd` (R204). -/
def execRol (d : Reg) (s : State) : Host.Outcome State Fault Refusal :=
  writeAlu d (rol8 (s.reg d) s.flags) 2 s

/-- `ROR Rd` (R205). -/
def execRor (d : Reg) (s : State) : Host.Outcome State Fault Refusal :=
  writeAlu d (ror8 (s.reg d) s.flags) 2 s

/-- `SWAP Rd` (R206). -/
def execSwap (d : Reg) (s : State) : Host.Outcome State Fault Refusal :=
  writeAlu d (swap8 (s.reg d) s.flags) 2 s

/-! ### 16-bit arithmetic (R212 to R215) -/

/-- `INC16 rp` (R213). -/
def execInc16 (p : Pair) (s : State) : Host.Outcome State Fault Refusal :=
  withRegisterPairs [p] s (writeAlu16 p (s.pair p + 1) 2 s)

/-- `DEC16 rp` (R214). -/
def execDec16 (p : Pair) (s : State) : Host.Outcome State Fault Refusal :=
  withRegisterPairs [p] s (writeAlu16 p (s.pair p - 1) 2 s)

/-- `ADD16 rpd, rps` (R215). -/
def execAdd16 (pd ps : Pair) (s : State) : Host.Outcome State Fault Refusal :=
  withRegisterPairs [pd, ps] s (writeAlu16 pd (s.pair pd + s.pair ps) 2 s)

end Sys2Proof.Machine
end

