-- ==== Sys2Proof/Machine/Stack.lean ====
section
/-! DEFINITION. The 6 stack instructions of 44_stack.md. No stack guard, no fault (R260). -/

namespace Sys2Proof.Machine

/-- `PUSH Rs` (R261). -/
def execPush (r : Reg) (s : State) : Host.Outcome State Fault Refusal :=
  retire 2 (s.push8 (s.reg r))

/-- `POP Rd` (R262). -/
def execPop (d : Reg) (s : State) : Host.Outcome State Fault Refusal :=
  retire 2 (s.drop8.setReg d s.top8)

/-- `PUSH16 rp` (R263). -/
def execPush16 (p : Pair) (s : State) : Host.Outcome State Fault Refusal :=
  withRegisterPairs [p] s (retire 2 (s.push16 (s.pair p)))

/-- `POP16 rp` (R264): the low byte popped first. -/
def execPop16 (p : Pair) (s : State) : Host.Outcome State Fault Refusal :=
  withRegisterPairs [p] s (retire 2 (s.drop16.setPair p s.top16))

/-- `PUSHF` (R268): the flags byte image. -/
def execPushf (s : State) : Host.Outcome State Fault Refusal :=
  retire 1 (s.push8 s.flags.image)

/-- `POPF` (R270): reserved bits discarded. -/
def execPopf (s : State) : Host.Outcome State Fault Refusal :=
  retire 1 (s.drop8.setFlags (Flags.ofImage s.top8))

end Sys2Proof.Machine
end

