-- ==== Sys2Proof/Machine/System.lean ====
section
/-! DEFINITION. Flag, interrupt-control and system instructions: the 8 of 45_flags_interrupt_system.md. -/

namespace Sys2Proof.Machine

/-- `SCF` (R280). -/
def execScf (s : State) : Host.Outcome State Fault Refusal :=
  retire 1 (s.setCarry true)

/-- `CCF` (R281): clears the carry. -/
def execCcf (s : State) : Host.Outcome State Fault Refusal :=
  retire 1 (s.setCarry false)

/-- `CMF` (R282): complements the carry. -/
def execCmf (s : State) : Host.Outcome State Fault Refusal :=
  retire 1 (s.setCarry (!s.flags.c))

/-- `EI` (R285); the interrupt check of the same step sees it. -/
def execEi (s : State) : Host.Outcome State Fault Refusal :=
  retire 1 (s.setIe true)

/-- `DI` (R286); the interrupt check of the same step sees it. -/
def execDi (s : State) : Host.Outcome State Fault Refusal :=
  retire 1 (s.setIe false)

/-- `RETI` (R287). -/
def execReti (s : State) : Host.Outcome State Fault Refusal :=
  .next s.returnFromInterrupt

/-- `NOP` (R295). -/
def execNop (s : State) : Host.Outcome State Fault Refusal :=
  retire 1 s

/-- `HLT` (R296): the halted state, with `PC` after the instruction. -/
def execHlt (s : State) : Host.Outcome State Fault Refusal :=
  retire 1 (s.setRun .halted)

end Sys2Proof.Machine
end

