-- ==== Sys2Proof/Machine/Dispatch.lean ====
section
/-! DEFINITION. The dispatch: one arm per instruction, in the opcode table's order (30_encoding.md R102). -/

namespace Sys2Proof.Machine

def exec (i : Instr) (s : State) : Host.Outcome State Fault Refusal :=
  match i with
  | .nop => Sys2Proof.Machine.execNop s
  | .hlt => Sys2Proof.Machine.execHlt s
  | .ei => Sys2Proof.Machine.execEi s
  | .di => Sys2Proof.Machine.execDi s
  | .scf => Sys2Proof.Machine.execScf s
  | .ccf => Sys2Proof.Machine.execCcf s
  | .cmf => Sys2Proof.Machine.execCmf s
  | .ret => Sys2Proof.Machine.execRet s
  | .reti => Sys2Proof.Machine.execReti s
  | .pushf => Sys2Proof.Machine.execPushf s
  | .popf => Sys2Proof.Machine.execPopf s
  | .jpHl => Sys2Proof.Machine.execJpHl s
  | .mov d r => Sys2Proof.Machine.execMov d r s
  | .ldi d b => Sys2Proof.Machine.execLdi d b s
  | .ldAbs d a => Sys2Proof.Machine.execLdAbs d a s
  | .ldHl d => Sys2Proof.Machine.execLdHl d s
  | .ldHlD d b => Sys2Proof.Machine.execLdHlD d b s
  | .stAbs d a => Sys2Proof.Machine.execStAbs d a s
  | .stHl d => Sys2Proof.Machine.execStHl d s
  | .stHlD d b => Sys2Proof.Machine.execStHlD d b s
  | .ldz d b => Sys2Proof.Machine.execLdz d b s
  | .stz d b => Sys2Proof.Machine.execStz d b s
  | .ldi16 p imm => Sys2Proof.Machine.execLdi16 p imm s
  | .mov16 pd ps => Sys2Proof.Machine.execMov16 pd ps s
  | .inPort d b => Sys2Proof.Machine.execInPort d b s
  | .outPort d b => Sys2Proof.Machine.execOutPort d b s
  | .add d r => Sys2Proof.Machine.execAdd d r s
  | .adc d r => Sys2Proof.Machine.execAdc d r s
  | .sub d r => Sys2Proof.Machine.execSub d r s
  | .sbc d r => Sys2Proof.Machine.execSbc d r s
  | .cmp d r => Sys2Proof.Machine.execCmp d r s
  | .and d r => Sys2Proof.Machine.execAnd d r s
  | .or d r => Sys2Proof.Machine.execOr d r s
  | .xor d r => Sys2Proof.Machine.execXor d r s
  | .addi d b => Sys2Proof.Machine.execAddi d b s
  | .subi d b => Sys2Proof.Machine.execSubi d b s
  | .cmpi d b => Sys2Proof.Machine.execCmpi d b s
  | .andi d b => Sys2Proof.Machine.execAndi d b s
  | .ori d b => Sys2Proof.Machine.execOri d b s
  | .xori d b => Sys2Proof.Machine.execXori d b s
  | .inc d => Sys2Proof.Machine.execInc d s
  | .dec d => Sys2Proof.Machine.execDec d s
  | .neg d => Sys2Proof.Machine.execNeg d s
  | .not d => Sys2Proof.Machine.execNot d s
  | .shl d => Sys2Proof.Machine.execShl d s
  | .shr d => Sys2Proof.Machine.execShr d s
  | .sar d => Sys2Proof.Machine.execSar d s
  | .rol d => Sys2Proof.Machine.execRol d s
  | .ror d => Sys2Proof.Machine.execRor d s
  | .swap d => Sys2Proof.Machine.execSwap d s
  | .inc16 p => Sys2Proof.Machine.execInc16 p s
  | .dec16 p => Sys2Proof.Machine.execDec16 p s
  | .add16 pd ps => Sys2Proof.Machine.execAdd16 pd ps s
  | .jmp a => Sys2Proof.Machine.execJmp a s
  | .jz a => Sys2Proof.Machine.execJz a s
  | .jnz a => Sys2Proof.Machine.execJnz a s
  | .jc a => Sys2Proof.Machine.execJc a s
  | .jnc a => Sys2Proof.Machine.execJnc a s
  | .js a => Sys2Proof.Machine.execJs a s
  | .jns a => Sys2Proof.Machine.execJns a s
  | .jo a => Sys2Proof.Machine.execJo a s
  | .jno a => Sys2Proof.Machine.execJno a s
  | .jr off => Sys2Proof.Machine.execJr off s
  | .jrz off => Sys2Proof.Machine.execJrz off s
  | .jrnz off => Sys2Proof.Machine.execJrnz off s
  | .jrc off => Sys2Proof.Machine.execJrc off s
  | .jrnc off => Sys2Proof.Machine.execJrnc off s
  | .jrs off => Sys2Proof.Machine.execJrs off s
  | .jrns off => Sys2Proof.Machine.execJrns off s
  | .jro off => Sys2Proof.Machine.execJro off s
  | .jrno off => Sys2Proof.Machine.execJrno off s
  | .call a => Sys2Proof.Machine.execCall a s
  | .push d => Sys2Proof.Machine.execPush d s
  | .pop d => Sys2Proof.Machine.execPop d s
  | .push16 p => Sys2Proof.Machine.execPush16 p s
  | .pop16 p => Sys2Proof.Machine.execPop16 p s

end Sys2Proof.Machine
end

