-- ==== Sys2Proof/WellFormed.lean ====
section
/-! DEFINITION. Which terms of `Instr` are instructions: the one condition the types do not carry is
where pair code 3 (`SP`) is admitted (30_encoding.md R84, R85). -/

namespace Sys2Proof

/-- A pair of general registers: pair codes 0, 1, 2 (R22). -/
def Pair.isRegisterPair : Pair → Bool
  | .bc | .de | .hl => true
  | .sp => false

/-- R84, R85: `SP` is admitted as a pair operand in `LDI16` alone; every other term is an instruction. -/
def Instr.wellFormed : Instr → Bool
  | .mov16 pd ps | .add16 pd ps => pd.isRegisterPair && ps.isRegisterPair
  | .inc16 p | .dec16 p | .push16 p | .pop16 p => p.isRegisterPair
  | .ldi16 _ _ => true
  | .nop | .hlt | .ei | .di | .scf | .ccf | .cmf | .ret | .reti | .pushf | .popf | .jpHl => true
  | .mov _ _ | .ldi _ _ | .ldAbs _ _ | .ldHl _ | .ldHlD _ _ | .stAbs _ _ | .stHl _ | .stHlD _ _ => true
  | .ldz _ _ | .stz _ _ | .inPort _ _ | .outPort _ _ => true
  | .add _ _ | .adc _ _ | .sub _ _ | .sbc _ _ | .cmp _ _ | .and _ _ | .or _ _ | .xor _ _ => true
  | .addi _ _ | .subi _ _ | .cmpi _ _ | .andi _ _ | .ori _ _ | .xori _ _ => true
  | .inc _ | .dec _ | .neg _ | .not _ | .shl _ | .shr _ | .sar _ | .rol _ | .ror _ | .swap _ => true
  | .jmp _ | .jz _ | .jnz _ | .jc _ | .jnc _ | .js _ | .jns _ | .jo _ | .jno _ => true
  | .jr _ | .jrz _ | .jrnz _ | .jrc _ | .jrnc _ | .jrs _ | .jrns _ | .jro _ | .jrno _ => true
  | .call _ | .push _ | .pop _ => true

end Sys2Proof
end

