-- ==== Sys2Proof/Decode.lean ====
section
/-! DEFINITION. The instruction encoding (30_encoding.md): the opcode map, the selector bytes, a decoder total on
any bytes, the encoder, the opcode table's own numbering of an instruction's bits, and the two assembler
conventions that fix bytes (R114, R115). -/

namespace Sys2Proof

/-! ### Formats and the opcode map -/

/-- A row of the opcode map: one constructor per format of R81, holding the operation that the row selects. -/
inductive Shape
  /-- `IMP`: no operand byte. -/
  | imp (i : Instr)
  /-- `REG`: a one-register selector. -/
  | reg (mk : Reg → Instr)
  /-- `REG2`: a two-register selector. -/
  | reg2 (mk : Reg → Reg → Instr)
  /-- `REGI`: a one-register selector, then the 8-bit operand. -/
  | regi (mk : Reg → Byte → Instr)
  /-- `REGA`: a one-register selector, then an address, low byte first. -/
  | rega (mk : Reg → Word → Instr)
  /-- `PR`: a one-pair selector that admits no `SP`. -/
  | pr (mk : Pair → Instr)
  /-- `PR2`: a two-pair selector that admits no `SP`. -/
  | pr2 (mk : Pair → Pair → Instr)
  /-- `PRI16`: a one-pair selector that admits `SP`, then an immediate, low byte first. -/
  | pri16 (mk : Pair → Word → Instr)
  /-- `ABS`: an address, low byte first. -/
  | abs (mk : Word → Instr)
  /-- `REL`: a signed offset. -/
  | rel (mk : Byte → Instr)

/-- The length `L` of an instruction of this format in bytes, the opcode byte included (R80, R81). -/
def Shape.length : Shape → Nat
  | .imp _ => 1
  | .reg _ | .reg2 _ | .pr _ | .pr2 _ | .rel _ => 2
  | .regi _ | .abs _ => 3
  | .rega _ | .pri16 _ => 4

/-- Opcodes `0x00` to `0x0B`: implied operand and system (R90). -/
def impliedRows : List (Byte × Shape) :=
  [(0x00, .imp .nop), (0x01, .imp .hlt), (0x02, .imp .ei), (0x03, .imp .di),
   (0x04, .imp .scf), (0x05, .imp .ccf), (0x06, .imp .cmf), (0x07, .imp .ret),
   (0x08, .imp .reti), (0x09, .imp .pushf), (0x0A, .imp .popf), (0x0B, .imp .jpHl)]

/-- Opcodes `0x10` to `0x1D`: data movement and ports (R90). -/
def moveRows : List (Byte × Shape) :=
  [(0x10, .reg2 .mov), (0x11, .regi .ldi), (0x12, .rega .ldAbs), (0x13, .reg .ldHl),
   (0x14, .regi .ldHlD), (0x15, .rega .stAbs), (0x16, .reg .stHl), (0x17, .regi .stHlD),
   (0x18, .regi .ldz), (0x19, .regi .stz), (0x1A, .pri16 .ldi16), (0x1B, .pr2 .mov16),
   (0x1C, .regi .inPort), (0x1D, .regi .outPort)]

/-- Opcodes `0x20` to `0x2D`: two-operand ALU, register forms then immediate forms (R90). -/
def twoOperandRows : List (Byte × Shape) :=
  [(0x20, .reg2 .add), (0x21, .reg2 .adc), (0x22, .reg2 .sub), (0x23, .reg2 .sbc),
   (0x24, .reg2 .cmp), (0x25, .reg2 .and), (0x26, .reg2 .or), (0x27, .reg2 .xor),
   (0x28, .regi .addi), (0x29, .regi .subi), (0x2A, .regi .cmpi), (0x2B, .regi .andi),
   (0x2C, .regi .ori), (0x2D, .regi .xori)]

/-- Opcodes `0x30` to `0x3C`: one-operand ALU and 16-bit arithmetic (R90). -/
def oneOperandRows : List (Byte × Shape) :=
  [(0x30, .reg .inc), (0x31, .reg .dec), (0x32, .reg .neg), (0x33, .reg .not),
   (0x34, .reg .shl), (0x35, .reg .shr), (0x36, .reg .sar), (0x37, .reg .rol),
   (0x38, .reg .ror), (0x39, .reg .swap), (0x3A, .pr .inc16), (0x3B, .pr .dec16),
   (0x3C, .pr2 .add16)]

/-- Opcodes `0x40` to `0x48` and `0x50` to `0x58`: absolute and relative jumps (R90). -/
def jumpRows : List (Byte × Shape) :=
  [(0x40, .abs .jmp), (0x41, .abs .jz), (0x42, .abs .jnz), (0x43, .abs .jc), (0x44, .abs .jnc),
   (0x45, .abs .js), (0x46, .abs .jns), (0x47, .abs .jo), (0x48, .abs .jno),
   (0x50, .rel .jr), (0x51, .rel .jrz), (0x52, .rel .jrnz), (0x53, .rel .jrc), (0x54, .rel .jrnc),
   (0x55, .rel .jrs), (0x56, .rel .jrns), (0x57, .rel .jro), (0x58, .rel .jrno)]

/-- Opcodes `0x60` to `0x64`: call and stack (R90). -/
def stackRows : List (Byte × Shape) :=
  [(0x60, .abs .call), (0x61, .reg .push), (0x62, .reg .pop), (0x63, .pr .push16), (0x64, .pr .pop16)]

/-- The complete opcode map, 76 rows (R90). -/
def opRows : List (Byte × Shape) :=
  impliedRows ++ moveRows ++ twoOperandRows ++ oneOperandRows ++ jumpRows ++ stackRows

/-- `OPMAP`: the row an opcode byte selects; `none` for the 180 illegal bytes (R91). -/
def opMap (op : Byte) : Option Shape := opRows.lookup op

/-! ### Selector bytes -/

/-- The register a 3-bit number names (R20, R82). -/
def regOf (c : BitVec 3) : Reg :=
  match c.toNat with
  | 0 => .r0
  | 1 => .r1
  | 2 => .r2
  | 3 => .r3
  | 4 => .r4
  | 5 => .r5
  | 6 => .r6
  | _ => .r7

/-- The pair a 2-bit code names (R84). -/
def pairOf (c : BitVec 2) : Pair :=
  match c.toNat with
  | 0 => .bc
  | 1 => .de
  | 2 => .hl
  | _ => .sp

/-- R82: `00000rrr`; `none` when a bit of `sel[7:3]` is 1. -/
def selReg (sel : Byte) : Option Reg :=
  if sel.extractLsb' 3 5 = 0 then some (regOf (sel.extractLsb' 0 3)) else none

/-- R83: `0ddd0sss`; `none` when `sel[7]` or `sel[3]` is 1. -/
def selReg2 (sel : Byte) : Option (Reg × Reg) :=
  if sel.extractLsb' 7 1 = 0 ∧ sel.extractLsb' 3 1 = 0 then
    some (regOf (sel.extractLsb' 4 3), regOf (sel.extractLsb' 0 3))
  else none

/-- R84 for `LDI16`: `000000pp`, every code admitted; `none` when a bit of `sel[7:2]` is 1. -/
def selAnyPair (sel : Byte) : Option Pair :=
  if sel.extractLsb' 2 6 = 0 then some (pairOf (sel.extractLsb' 0 2)) else none

/-- R84 for `INC16`, `DEC16`, `PUSH16`, `POP16`: as `selAnyPair`, code 3 invalid. -/
def selPair (sel : Byte) : Option Pair :=
  (selAnyPair sel).filter Pair.isRegisterPair

/-- R85: `00dd00ss`; `none` when a bit of `sel[7:6]` or `sel[3:2]` is 1, or a code is 3. -/
def selPair2 (sel : Byte) : Option (Pair × Pair) :=
  if sel.extractLsb' 6 2 = 0 ∧ sel.extractLsb' 2 2 = 0 then
    (some (pairOf (sel.extractLsb' 4 2), pairOf (sel.extractLsb' 0 2))).filter
      fun ps => ps.1.isRegisterPair && ps.2.isRegisterPair
  else none

/-! ### The decoder -/

/-- What a byte sequence decodes to. Every value but `instr` and `truncated` is the step's `InvalidOpcode` (R86, R87, R91). -/
inductive Decoded
  /-- An instruction and the bytes after it. -/
  | instr (i : Instr) (rest : List Byte)
  /-- The opcode byte is not in the opcode map (R91). -/
  | illegalOpcode (op : Byte)
  /-- The register selector has a bit set that must be zero (R86). -/
  | badRegisterSelector (sel : Byte)
  /-- The pair selector has a bit set that must be zero, or names `SP` where it is not admitted (R87). -/
  | badPairSelector (sel : Byte)
  /-- Fewer bytes than the opcode's length; a step always supplies them all (R101). -/
  | truncated
deriving DecidableEq, Repr

/-- The instruction of a valid register selector, or the refusal of an invalid one (R86). -/
def withRegSel {α : Type} (sel : Byte) (r : Option α) (mk : α → Instr) (rest : List Byte) : Decoded :=
  match r with
  | some x => .instr (mk x) rest
  | none => .badRegisterSelector sel

/-- The instruction of a valid pair selector, or the refusal of an invalid one (R87). -/
def withPairSel {α : Type} (sel : Byte) (p : Option α) (mk : α → Instr) (rest : List Byte) : Decoded :=
  match p with
  | some x => .instr (mk x) rest
  | none => .badPairSelector sel

/-- Reads the operand bytes of a format (R81), the bytes after the opcode. -/
def decodeOperands : Shape → List Byte → Decoded
  | .imp i, rest => .instr i rest
  | .reg mk, sel :: rest => withRegSel sel (selReg sel) mk rest
  | .reg2 mk, sel :: rest => withRegSel sel (selReg2 sel) (fun ds => mk ds.1 ds.2) rest
  | .regi mk, sel :: b :: rest => withRegSel sel (selReg sel) (fun r => mk r b) rest
  | .rega mk, sel :: lo :: hi :: rest => withRegSel sel (selReg sel) (fun r => mk r (wordOf hi lo)) rest
  | .pr mk, sel :: rest => withPairSel sel (selPair sel) mk rest
  | .pr2 mk, sel :: rest => withPairSel sel (selPair2 sel) (fun ps => mk ps.1 ps.2) rest
  | .pri16 mk, sel :: lo :: hi :: rest => withPairSel sel (selAnyPair sel) (fun p => mk p (wordOf hi lo)) rest
  | .abs mk, lo :: hi :: rest => .instr (mk (wordOf hi lo)) rest
  | .rel mk, d :: rest => .instr (mk d) rest
  | .reg _, [] | .reg2 _, [] | .pr _, [] | .pr2 _, [] | .rel _, [] => .truncated
  | .regi _, [] | .regi _, [_] | .abs _, [] | .abs _, [_] => .truncated
  | .rega _, [] | .rega _, [_] | .rega _, [_, _] => .truncated
  | .pri16 _, [] | .pri16 _, [_] | .pri16 _, [_, _] => .truncated

/-- The decoder, total on any bytes: the opcode byte first, operand bytes only when it is legal (R91, R93, R101). -/
def decode : List Byte → Decoded
  | [] => .truncated
  | op :: rest =>
    match opMap op with
    | none => .illegalOpcode op
    | some sh => decodeOperands sh rest

/-! ### The encoder -/

/-- The 3-bit number of a register (R20). -/
def Reg.code : Reg → BitVec 3
  | .r0 => 0
  | .r1 => 1
  | .r2 => 2
  | .r3 => 3
  | .r4 => 4
  | .r5 => 5
  | .r6 => 6
  | .r7 => 7

/-- The 2-bit code of a pair (R84). -/
def Pair.code : Pair → BitVec 2
  | .bc => 0
  | .de => 1
  | .hl => 2
  | .sp => 3

/-- `00000rrr` (R82). -/
def regSel (r : Reg) : Byte := 0#5 ++ r.code

/-- `0ddd0sss` (R83). -/
def reg2Sel (d r : Reg) : Byte := 0#1 ++ d.code ++ 0#1 ++ r.code

/-- `000000pp` (R84). -/
def pairSel (p : Pair) : Byte := 0#6 ++ p.code

/-- `00dd00ss` (R85). -/
def pair2Sel (pd ps : Pair) : Byte := 0#2 ++ pd.code ++ 0#2 ++ ps.code

/-- The bytes of an instruction in memory order (R81, R90); a 16-bit operand stands low byte first (R89). -/
def encode : Instr → List Byte
  | .nop => [0x00]
  | .hlt => [0x01]
  | .ei => [0x02]
  | .di => [0x03]
  | .scf => [0x04]
  | .ccf => [0x05]
  | .cmf => [0x06]
  | .ret => [0x07]
  | .reti => [0x08]
  | .pushf => [0x09]
  | .popf => [0x0A]
  | .jpHl => [0x0B]
  | .mov d r => [0x10, reg2Sel d r]
  | .ldi d imm => [0x11, regSel d, imm]
  | .ldAbs d a => [0x12, regSel d, loByte a, hiByte a]
  | .ldHl d => [0x13, regSel d]
  | .ldHlD d disp => [0x14, regSel d, disp]
  | .stAbs r a => [0x15, regSel r, loByte a, hiByte a]
  | .stHl r => [0x16, regSel r]
  | .stHlD r disp => [0x17, regSel r, disp]
  | .ldz d zp => [0x18, regSel d, zp]
  | .stz r zp => [0x19, regSel r, zp]
  | .ldi16 p imm => [0x1A, pairSel p, loByte imm, hiByte imm]
  | .mov16 pd ps => [0x1B, pair2Sel pd ps]
  | .inPort d port => [0x1C, regSel d, port]
  | .outPort r port => [0x1D, regSel r, port]
  | .add d r => [0x20, reg2Sel d r]
  | .adc d r => [0x21, reg2Sel d r]
  | .sub d r => [0x22, reg2Sel d r]
  | .sbc d r => [0x23, reg2Sel d r]
  | .cmp d r => [0x24, reg2Sel d r]
  | .and d r => [0x25, reg2Sel d r]
  | .or d r => [0x26, reg2Sel d r]
  | .xor d r => [0x27, reg2Sel d r]
  | .addi d imm => [0x28, regSel d, imm]
  | .subi d imm => [0x29, regSel d, imm]
  | .cmpi d imm => [0x2A, regSel d, imm]
  | .andi d imm => [0x2B, regSel d, imm]
  | .ori d imm => [0x2C, regSel d, imm]
  | .xori d imm => [0x2D, regSel d, imm]
  | .inc d => [0x30, regSel d]
  | .dec d => [0x31, regSel d]
  | .neg d => [0x32, regSel d]
  | .not d => [0x33, regSel d]
  | .shl d => [0x34, regSel d]
  | .shr d => [0x35, regSel d]
  | .sar d => [0x36, regSel d]
  | .rol d => [0x37, regSel d]
  | .ror d => [0x38, regSel d]
  | .swap d => [0x39, regSel d]
  | .inc16 p => [0x3A, pairSel p]
  | .dec16 p => [0x3B, pairSel p]
  | .add16 pd ps => [0x3C, pair2Sel pd ps]
  | .jmp a => [0x40, loByte a, hiByte a]
  | .jz a => [0x41, loByte a, hiByte a]
  | .jnz a => [0x42, loByte a, hiByte a]
  | .jc a => [0x43, loByte a, hiByte a]
  | .jnc a => [0x44, loByte a, hiByte a]
  | .js a => [0x45, loByte a, hiByte a]
  | .jns a => [0x46, loByte a, hiByte a]
  | .jo a => [0x47, loByte a, hiByte a]
  | .jno a => [0x48, loByte a, hiByte a]
  | .jr off => [0x50, off]
  | .jrz off => [0x51, off]
  | .jrnz off => [0x52, off]
  | .jrc off => [0x53, off]
  | .jrnc off => [0x54, off]
  | .jrs off => [0x55, off]
  | .jrns off => [0x56, off]
  | .jro off => [0x57, off]
  | .jrno off => [0x58, off]
  | .call a => [0x60, loByte a, hiByte a]
  | .push r => [0x61, regSel r]
  | .pop d => [0x62, regSel d]
  | .push16 p => [0x63, pairSel p]
  | .pop16 p => [0x64, pairSel p]

/-! ### The opcode table's numbering -/

/-- The `n` bytes of the number `w`, most significant byte first: the table reads an instruction's bytes as one
number in memory order, the opcode its most significant byte (R90; spec/INDEX.md). Log entry 5. -/
def bytesOfNumber : Nat → Nat → List Byte
  | 0, _ => []
  | n + 1, w => BitVec.ofNat 8 (w >>> (8 * n)) :: bytesOfNumber n w

/-- The bytes of a table row's number of `nbits` bits, with zero bytes after them up to four, the longest instruction (R80). -/
def tableBytes (nbits w : Nat) : List Byte :=
  let bytes := bytesOfNumber (nbits / 8) w
  bytes ++ List.replicate (4 - bytes.length) 0

/-- The instruction the decoder reads from a table row's number; `none` where it refuses. -/
def decodeTableWord (nbits w : Nat) : Option Instr :=
  match decode (tableBytes nbits w) with
  | .instr i _ => some i
  | .illegalOpcode _ | .badRegisterSelector _ | .badPairSelector _ | .truncated => none

/-! ### Assembler conventions that fix bytes -/

/-- `STA [a16]`, an assembler alias of `ST [a16], R0`, no opcode of its own (R114). -/
def staAlias (a : Word) : Instr := .stAbs .r0 a

/-- The offset byte the assembler writes for a relative branch at `addr` to `target` (R115); `none` when the
distance from the following instruction is not in −128..127. -/
def relOffset (addr target : Word) : Option Byte :=
  let dist := (target - (addr + 2)).toInt
  if -128 ≤ dist ∧ dist ≤ 127 then some (BitVec.ofInt 8 dist) else none

end Sys2Proof
end

