-- ==== Sys2Proof/Machine/Fetch.lean ====
section
/-! DEFINITION. Instruction fetch (30_encoding.md R93, R101), and storing an instruction's bytes where the next
fetch reads them. -/

namespace Sys2Proof.Machine

/-- The `n` bytes from address `a` on, wrapping at the top of the address space (R59). -/
def State.bytesAt (s : State) : Nat → Word → List Byte
  | 0, _ => []
  | n + 1, a => s.readByte a :: s.bytesAt n (a + 1)

/-- The bytes a step fetches: the opcode byte, then the operand bytes its opcode alone calls for; of an illegal
opcode no operand byte (R91, R93). -/
def State.fetchBytes (s : State) : List Byte :=
  match opMap (s.readByte s.pc) with
  | none => [s.readByte s.pc]
  | some sh => s.bytesAt sh.length s.pc

/-- What the next step decodes (R101). -/
def State.fetched (s : State) : Decoded := decode s.fetchBytes

/-- Stores bytes at consecutive addresses from `a` on, wrapping: the loader's contract (R356), which allows any order.
DESIGN CHOICE: ascending order, so that of two bytes of an image longer than 65536 bytes that fall on one address the
later one stays. Log entry 11. -/
def State.storeBytes (s : State) (a : Word) : List Byte → State
  | [] => s
  | v :: rest => (s.writeByte a v).storeBytes (a + 1) rest

/-- A running core about to fetch the given bytes. -/
def State.aboutToFetch (s : State) (bytes : List Byte) : State :=
  { s.storeBytes s.pc bytes with run := .running, faultReason := .none }

end Sys2Proof.Machine
end

