-- ==== Sys2Proof/Machine/Sequencer.lean ====
section
/-! DEFINITION. The sequencer: the phases of one step (30_encoding.md R100). -/

namespace Sys2Proof.Machine

/-- `FETCH` to `COMMIT` of a running core: the decoded instruction, or the `InvalidOpcode` fault transition, before any
other state changes (R86, R87, R91, R302). -/
def execFetched (s : State) : Host.Outcome State Fault Refusal :=
  match s.fetched with
  | .instr i _ => exec i s
  | .illegalOpcode _ | .badRegisterSelector _ | .badPairSelector _ | .truncated => .next (s.raiseFault .invalidOpcode)

/-- The instruction part of a step: a halted or faulted core fetches nothing (R100, R303). -/
def instructionPhase (s : State) : Host.Outcome State Fault Refusal :=
  match s.run with
  | .running => execFetched s
  | .halted | .faulted => .next s

/-- The whole step: the instruction part, then the interrupt check (R100). -/
def stepOnce (s : State) : Host.Outcome State Fault Refusal :=
  match instructionPhase s with
  | .next t => .next t.finishStep
  | .fault r => .fault r
  | .refused r => .refused r

end Sys2Proof.Machine
end

