-- ==== Sys2Proof/Machine/Step.lean ====
section
/-! DEFINITION. One step of the machine, and the state whose next step runs a given instruction. -/

namespace Sys2Proof.Machine

/-- One step (R100): one atomic transition of the whole state. -/
def step (s : State) : Host.Outcome State Fault Refusal := stepOnce s

/-- `s` with the instruction of a table row's number stored at `PC`, and the core running so that the next step
fetches it. Log entry 4 says how a program comes to run from reset. -/
def State.withFetchWord (s : State) (nbits w : Nat) : State := s.aboutToFetch (tableBytes nbits w)

end Sys2Proof.Machine
end

