-- ==== Sys2Proof/Machine/Environment.lean ====
section
/-! DEFINITION. The host's side of the block's interfaces, between two steps (10_state.md R39, R40; 60_exceptions.md
R315; 70_reset_and_hazards.md R350, R356; 30_encoding.md R103). -/

namespace Sys2Proof.Machine

/-! ### Reset, interrupt request, load -/

/-- `reset(INIT_PC, INIT_SP)` (R350): every core register at its reset value; memory and ports are not touched. -/
def State.hostReset (s : State) (initPc initSp : Word) : State where
  regs := ⟨0, 0, 0, 0, 0, 0, 0, 0⟩
  sp := initSp
  pc := initPc
  flags := ⟨false, false, false, false⟩
  ie := false
  irqp := false
  run := .running
  faultReason := .none
  mem := s.mem
  ports := s.ports

/-- `raise_interrupt()` (R315, R316): sets the latch, in any run state. -/
def State.raiseInterrupt (s : State) : State := s.setIrqp true

/-- The loader (R356): the bytes stored from the load address on, wrapping, in ascending order (DESIGN CHOICE, log
entry 11). -/
def State.load (s : State) (a : Word) (bytes : List Byte) : State := s.storeBytes a bytes

/-- The host attaches or detaches its port capability (R70, R71). -/
def State.attachPorts (s : State) (on : Bool) : State := { s with ports := { s.ports with attached := on } }

/-- What the host does between two steps (R366); a snapshot changes nothing and is no action. -/
inductive HostAction
  | reset (initPc initSp : Word)
  | raiseInterrupt
  | load (a : Word) (bytes : List Byte)
  | attachPorts (on : Bool)
deriving DecidableEq, Repr

/-- The state after a host action. -/
def State.hostAct (s : State) : HostAction → State
  | .reset initPc initSp => s.hostReset initPc initSp
  | .raiseInterrupt => s.raiseInterrupt
  | .load a bytes => s.load a bytes
  | .attachPorts on => s.attachPorts on

/-! ### Status and snapshot -/

/-- The result a step returns (R103). -/
inductive StepResult
  | continued
  | halted
  | faulted (reason : FaultReason)
deriving DecidableEq, Repr

/-- The result of the step that ended in this state, a function of the end state alone (R103). -/
def State.result (s : State) : StepResult :=
  match s.run with
  | .running => .continued
  | .halted => .halted
  | .faulted => .faulted s.faultReason

/-- The number of a fault reason on the status interface (R37). -/
def FaultReason.code : FaultReason → Nat
  | .none => 0
  | .invalidOpcode => 1
  | .stackOverflow => 2
  | .stackUnderflow => 3
  | .memoryOutOfRange => 4

/-- What the snapshot interface shows (R40): not `IRQP`, and `FAULT_REASON` only on the status interface. -/
structure Snapshot where
  regs : Regs
  sp : Word
  pc : Word
  flags : Flags
  ie : Bool
  run : RunState
  window : List Byte
deriving DecidableEq, Repr

/-- The snapshot with the memory window of `n` bytes from `a` on (R40). -/
def State.snapshot (s : State) (a : Word) (n : Nat) : Snapshot where
  regs := s.regs
  sp := s.sp
  pc := s.pc
  flags := s.flags
  ie := s.ie
  run := s.run
  window := s.bytesAt n a

end Sys2Proof.Machine
end

