-- ==== Sys2Proof/Safety.lean ====
section
/-! DEFINITION. What the claims speak of: frames, the ALU's results as numbers, which state each instruction may write,
the invariant of the machine, and when a run is over. -/

namespace Sys2Proof.Machine

/-! ### Frames -/

/-- No general register outside `regs` and no byte of memory outside `bytes` differs from `s` to `t`. -/
structure RegMemFrame (regs : List Reg) (bytes : List Word) (s t : State) : Prop where
  reg : ∀ r, r ∉ regs → t.reg r = s.reg r
  mem : ∀ a, a ∉ bytes → t.readByte a = s.readByte a

/-- The control state and the port interface are the same: `IE`, `IRQP`, `RUN`, `FAULT_REASON`, `PORTS`. -/
structure ControlSame (s t : State) : Prop where
  ie : t.ie = s.ie
  irqp : t.irqp = s.irqp
  run : t.run = s.run
  faultReason : t.faultReason = s.faultReason
  ports : t.ports = s.ports

/-- `PC` has moved past an instruction of `len` bytes (R26). -/
def Advanced (len : Nat) (s t : State) : Prop := t.pc = s.pc + BitVec.ofNat 16 len

/-- The effect of an instruction that writes general registers `regs` and flags at most, `len` bytes long: memory, `SP`
and the control state as before. -/
structure RegisterOnly (regs : List Reg) (len : Nat) (s t : State) : Prop where
  frame : RegMemFrame regs [] s t
  sp : t.sp = s.sp
  control : ControlSame s t
  pc : Advanced len s t

/-- The general registers of a pair; `SP` is none of them. -/
def pairRegs : Pair → List Reg
  | .bc => [.r1, .r2]
  | .de => [.r3, .r4]
  | .hl => [.r5, .r6]
  | .sp => []

/-! ### ALU results as numbers -/

/-- `Z` and `S` are those of the 8-bit result `r` (R150). -/
structure ZeroSign (r : Byte) (f : Flags) : Prop where
  zero : f.z = true ↔ r = 0
  sign : f.s = true ↔ 128 ≤ r.toNat

/-- `r` and `f` are the sum `a + b + cin` and its four flags (R151). -/
structure IsSum (a b : Byte) (cin : Bool) (r : Byte) (f : Flags) : Prop where
  value : r.toNat = (a.toNat + b.toNat + cin.toNat) % 256
  carry : f.c = true ↔ 255 < a.toNat + b.toNat + cin.toNat
  overflow : f.o = true ↔ a.msb = b.msb ∧ r.msb ≠ a.msb
  zeroSign : ZeroSign r f

/-- `r` and `f` are the difference `a - b - bin` and its four flags, `C` the borrow (R153). -/
structure IsDifference (a b : Byte) (bin : Bool) (r : Byte) (f : Flags) : Prop where
  value : (r.toNat : Int) = ((a.toNat : Int) - b.toNat - bin.toNat) % 256
  borrow : f.c = true ↔ a.toNat < b.toNat + bin.toNat
  overflow : f.o = true ↔ a.msb ≠ b.msb ∧ r.msb ≠ a.msb
  zeroSign : ZeroSign r f

/-- The flags after a logic result `r` (R157). -/
structure LogicFlags (r : Byte) (f : Flags) : Prop where
  zeroSign : ZeroSign r f
  carry : f.c = false
  overflow : f.o = false

/-- The flags after a shift or rotate from flags `f` to `g`: `C` the bit shifted out, `O` unchanged (R200). -/
structure ShiftFlags (r : Byte) (out : Bool) (f g : Flags) : Prop where
  zeroSign : ZeroSign r g
  carry : g.c = out
  overflow : g.o = f.o

/-- The flags after a 16-bit arithmetic result from flags `f` to `g` (R212). -/
structure WideFlags (r : Word) (f g : Flags) : Prop where
  zero : g.z = true ↔ r = 0
  sign : g.s = true ↔ 32768 ≤ r.toNat
  carry : g.c = f.c
  overflow : g.o = f.o

end Sys2Proof.Machine

namespace Sys2Proof

open Machine

/-! ### Which state each instruction may write -/

/-- The flags an instruction may write (the matrix of R158): `w` and `0` are true, `-` is false. -/
def Instr.flagsWritten : Instr → Flags
  | .add _ _ | .adc _ _ | .sub _ _ | .sbc _ _ | .cmp _ _ | .neg _ | .addi _ _ | .subi _ _ | .cmpi _ _ => ⟨true, true, true, true⟩
  | .and _ _ | .or _ _ | .xor _ _ | .not _ | .andi _ _ | .ori _ _ | .xori _ _ => ⟨true, true, true, true⟩
  | .inc _ | .dec _ => ⟨true, true, true, false⟩
  | .shl _ | .shr _ | .sar _ | .rol _ | .ror _ => ⟨true, true, false, true⟩
  | .swap _ => ⟨true, true, false, false⟩
  | .inc16 _ | .dec16 _ | .add16 _ _ => ⟨true, true, false, false⟩
  | .scf | .ccf | .cmf => ⟨false, false, false, true⟩
  | .popf => ⟨true, true, true, true⟩
  | .nop | .hlt | .ei | .di | .ret | .reti | .pushf | .jpHl => ⟨false, false, false, false⟩
  | .mov _ _ | .ldi _ _ | .ldAbs _ _ | .ldHl _ | .ldHlD _ _ | .stAbs _ _ | .stHl _ | .stHlD _ _ => ⟨false, false, false, false⟩
  | .ldz _ _ | .stz _ _ | .ldi16 _ _ | .mov16 _ _ | .inPort _ _ | .outPort _ _ => ⟨false, false, false, false⟩
  | .jmp _ | .jz _ | .jnz _ | .jc _ | .jnc _ | .js _ | .jns _ | .jo _ | .jno _ => ⟨false, false, false, false⟩
  | .jr _ | .jrz _ | .jrnz _ | .jrc _ | .jrnc _ | .jrs _ | .jrns _ | .jro _ | .jrno _ => ⟨false, false, false, false⟩
  | .call _ | .push _ | .pop _ | .push16 _ | .pop16 _ => ⟨false, false, false, false⟩

/-- The general registers an instruction may write, read off its rule. -/
def Instr.destRegs : Instr → List Reg
  | .mov d _ | .ldi d _ | .ldAbs d _ | .ldHl d | .ldHlD d _ | .ldz d _ | .inPort d _ | .pop d => [d]
  | .add d _ | .adc d _ | .sub d _ | .sbc d _ | .and d _ | .or d _ | .xor d _ => [d]
  | .addi d _ | .subi d _ | .andi d _ | .ori d _ | .xori d _ => [d]
  | .inc d | .dec d | .neg d | .not d | .shl d | .shr d | .sar d | .rol d | .ror d | .swap d => [d]
  | .ldi16 p _ | .mov16 p _ | .inc16 p | .dec16 p | .add16 p _ | .pop16 p => pairRegs p
  | .nop | .hlt | .ei | .di | .scf | .ccf | .cmf | .ret | .reti | .pushf | .popf | .jpHl => []
  | .stAbs _ _ | .stHl _ | .stHlD _ _ | .stz _ _ | .outPort _ _ | .cmp _ _ | .cmpi _ _ => []
  | .jmp _ | .jz _ | .jnz _ | .jc _ | .jnc _ | .js _ | .jns _ | .jo _ | .jno _ => []
  | .jr _ | .jrz _ | .jrnz _ | .jrc _ | .jrnc _ | .jrs _ | .jrns _ | .jro _ | .jrno _ => []
  | .call _ | .push _ | .push16 _ => []

/-- The bytes of memory an instruction stores to, with the address function its meaning uses (R55). -/
def Instr.storedBytes (i : Instr) (s : State) : List Word :=
  match i with
  | .stAbs _ a => [(MemOperand.direct a).address s]
  | .stHl _ => [MemOperand.indirect.address s]
  | .stHlD _ disp => [(MemOperand.indexed disp).address s]
  | .stz _ zp => [(MemOperand.zeroPage zp).address s]
  | .push _ | .pushf => [s.sp - 1]
  | .push16 _ | .call _ => [s.sp - 1, s.sp - 2]
  | .nop | .hlt | .ei | .di | .scf | .ccf | .cmf | .ret | .reti | .popf | .jpHl => []
  | .mov _ _ | .ldi _ _ | .ldAbs _ _ | .ldHl _ | .ldHlD _ _ | .ldz _ _ | .ldi16 _ _ | .mov16 _ _ => []
  | .inPort _ _ | .outPort _ _ => []
  | .add _ _ | .adc _ _ | .sub _ _ | .sbc _ _ | .cmp _ _ | .and _ _ | .or _ _ | .xor _ _ => []
  | .addi _ _ | .subi _ _ | .cmpi _ _ | .andi _ _ | .ori _ _ | .xori _ _ => []
  | .inc _ | .dec _ | .neg _ | .not _ | .shl _ | .shr _ | .sar _ | .rol _ | .ror _ | .swap _ => []
  | .inc16 _ | .dec16 _ | .add16 _ _ => []
  | .jmp _ | .jz _ | .jnz _ | .jc _ | .jnc _ | .js _ | .jns _ | .jo _ | .jno _ => []
  | .jr _ | .jrz _ | .jrnz _ | .jrc _ | .jrnc _ | .jrs _ | .jrns _ | .jro _ | .jrno _ => []
  | .pop _ | .pop16 _ => []

/-- Whether an instruction may write `SP`: `LDI16 SP`, and every push and pop (R24). -/
def Instr.writesSp : Instr → Bool
  | .ldi16 .sp _ => true
  | .push _ | .pop _ | .push16 _ | .pop16 _ | .pushf | .popf | .call _ | .ret | .reti => true
  | .ldi16 .bc _ | .ldi16 .de _ | .ldi16 .hl _ | .mov16 _ _ => false
  | .nop | .hlt | .ei | .di | .scf | .ccf | .cmf | .jpHl => false
  | .mov _ _ | .ldi _ _ | .ldAbs _ _ | .ldHl _ | .ldHlD _ _ | .stAbs _ _ | .stHl _ | .stHlD _ _ => false
  | .ldz _ _ | .stz _ _ | .inPort _ _ | .outPort _ _ => false
  | .add _ _ | .adc _ _ | .sub _ _ | .sbc _ _ | .cmp _ _ | .and _ _ | .or _ _ | .xor _ _ => false
  | .addi _ _ | .subi _ _ | .cmpi _ _ | .andi _ _ | .ori _ _ | .xori _ _ => false
  | .inc _ | .dec _ | .neg _ | .not _ | .shl _ | .shr _ | .sar _ | .rol _ | .ror _ | .swap _ => false
  | .inc16 _ | .dec16 _ | .add16 _ _ => false
  | .jmp _ | .jz _ | .jnz _ | .jc _ | .jnc _ | .js _ | .jns _ | .jo _ | .jno _ => false
  | .jr _ | .jrz _ | .jrnz _ | .jrc _ | .jrnc _ | .jrs _ | .jrns _ | .jro _ | .jrno _ => false

/-- Whether an instruction may redirect control (R26): the jumps, `JP HL`, `CALL`, `RET`, `RETI`. -/
def Instr.redirects : Instr → Bool
  | .jmp _ | .jz _ | .jnz _ | .jc _ | .jnc _ | .js _ | .jns _ | .jo _ | .jno _ => true
  | .jr _ | .jrz _ | .jrnz _ | .jrc _ | .jrnc _ | .jrs _ | .jrns _ | .jro _ | .jrno _ => true
  | .jpHl | .call _ | .ret | .reti => true
  | .nop | .hlt | .ei | .di | .scf | .ccf | .cmf | .pushf | .popf => false
  | .mov _ _ | .ldi _ _ | .ldAbs _ _ | .ldHl _ | .ldHlD _ _ | .stAbs _ _ | .stHl _ | .stHlD _ _ => false
  | .ldz _ _ | .stz _ _ | .ldi16 _ _ | .mov16 _ _ | .inPort _ _ | .outPort _ _ => false
  | .add _ _ | .adc _ _ | .sub _ _ | .sbc _ _ | .cmp _ _ | .and _ _ | .or _ _ | .xor _ _ => false
  | .addi _ _ | .subi _ _ | .cmpi _ _ | .andi _ _ | .ori _ _ | .xori _ _ => false
  | .inc _ | .dec _ | .neg _ | .not _ | .shl _ | .shr _ | .sar _ | .rol _ | .ror _ | .swap _ => false
  | .inc16 _ | .dec16 _ | .add16 _ _ => false
  | .push _ | .pop _ | .push16 _ | .pop16 _ => false

end Sys2Proof

namespace Sys2Proof.Machine

/-! ### The invariant, and the end of a run -/

/-- Memory has its canonical form, and `FAULT_REASON` is `InvalidOpcode` exactly while the core is faulted, `None`
otherwise (R37, R304). -/
abbrev State.Inv (s : State) : Prop :=
  Memory.wf s.mem = true ∧ (s.run = .faulted → s.faultReason = .invalidOpcode) ∧
    (s.run ≠ .faulted → s.faultReason = .none)

/-- A run is over: faulted, or halted with interrupts masked (R358). -/
abbrev State.runOver (s : State) : Prop := s.run = .faulted ∨ (s.run = .halted ∧ s.ie = false)

/-- The 180 illegal opcode bytes, by the ranges of R91. -/
abbrev IllegalOpcodeByte (op : Byte) : Prop :=
  (0x0C ≤ op.toNat ∧ op.toNat ≤ 0x0F) ∨ (0x1E ≤ op.toNat ∧ op.toNat ≤ 0x1F) ∨ (0x2E ≤ op.toNat ∧ op.toNat ≤ 0x2F) ∨
  (0x3D ≤ op.toNat ∧ op.toNat ≤ 0x3F) ∨ (0x49 ≤ op.toNat ∧ op.toNat ≤ 0x4F) ∨ (0x59 ≤ op.toNat ∧ op.toNat ≤ 0x5F) ∨
  (0x65 ≤ op.toNat)

/-- The state after the fault transition for `InvalidOpcode` (R302). -/
def faultedState (s : State) : State := { s with run := .faulted, faultReason := .invalidOpcode }

end Sys2Proof.Machine
end

