-- ==== Sys2Proof/Certificates/Slice0/Obligations.lean ====
section
/-! DEFINITION. The statements for the provers. Each docstring names the rules or sections of spec/ it formalises, and
which of its clauses the spec itself marks as its own decision or inference. -/

open Sys2Proof Sys2Proof.Machine

/-! ### Encoding -/

/-- Decoding the encoding of a well-formed instruction gives it back, with every operand at every value the encoding
admits, whatever bytes follow. The formats are 30_encoding.md sections 1 to 4; their numbers are the spec's own decisions D1 to D5. -/
def Obligations.EncodeThenDecode : Prop :=
  ∀ (i : Instr) (rest : List Byte), i.wellFormed = true → decode (encode i ++ rest) = .instr i rest

/-- Whatever decodes is a well-formed instruction, and the bytes read are its one encoding: there are no undocumented
aliases (30_encoding.md section 5). The numbers are the spec's own decisions D1 to D5. -/
def Obligations.DecodedBytesAreTheEncoding : Prop :=
  ∀ (bytes rest : List Byte) (i : Instr), decode bytes = .instr i rest →
    i.wellFormed = true ∧ bytes = encode i ++ rest

/-- Ten words, one per format, written out from the encodings of 30_encoding.md sections 1, 2 and 4 and of files 40 to 44.
The byte values are the spec's own decisions D1 to D5 (log entry 10). -/
def Obligations.SpecWordsDecode : Prop :=
  decode [0b00001011] = .instr .jpHl [] ∧
  decode [0b00110000, 0b00000010] = .instr (.inc .r2) [] ∧
  decode [0b00010000, 0b01110011] = .instr (.mov .r7 .r3) [] ∧
  decode [0b00010100, 0b00000001, 0b00000011] = .instr (.ldHlD .r1 3) [] ∧
  decode [0b00010101, 0b00000000, 0b00000000, 0b00000101] = .instr (.stAbs .r0 0x0500) [] ∧
  decode [0b01100011, 0b00000010] = .instr (.push16 .hl) [] ∧
  decode [0b00111100, 0b00100000] = .instr (.add16 .hl .bc) [] ∧
  decode [0b00011010, 0b00000011, 0b11111110, 0b00000001] = .instr (.ldi16 .sp 0x01FE) [] ∧
  decode [0b01100000, 0b01000000, 0b00000010] = .instr (.call 0x0240) [] ∧
  decode [0b01010000, 0b11111010] = .instr (.jr 0xFA) []

/-- R91: the opcode bytes outside the map are the 180 of the listed ranges, and fetching one is the fault transition,
whatever the bytes after it; `PC` stays. -/
def Obligations.IllegalOpcodeFaults : Prop :=
  (∀ op : Byte, opMap op = none ↔ IllegalOpcodeByte op) ∧
  ((List.range 256).filter fun n => decide (IllegalOpcodeByte (BitVec.ofNat 8 n))).length = 180 ∧
  ∀ s : State, s.run = .running → IllegalOpcodeByte (s.readByte s.pc) → step s = .next (faultedState s)

/-- An opcode with a register selector and a selector with a bit set that must be 0 is the fault transition. That an
invalid register selector faults is the spec's own decision D3 (30_encoding.md section 2). -/
def Obligations.InvalidRegisterSelectorFaults : Prop :=
  ∀ s : State, s.run = .running →
    (s.readByte s.pc ∈ ([0x11, 0x12, 0x13, 0x14, 0x15, 0x16, 0x17, 0x18, 0x19, 0x1C, 0x1D, 0x28, 0x29, 0x2A, 0x2B, 0x2C,
        0x2D, 0x30, 0x31, 0x32, 0x33, 0x34, 0x35, 0x36, 0x37, 0x38, 0x39, 0x61, 0x62] : List Byte) ∧
      s.readByte (s.pc + 1) &&& 0xF8 ≠ 0) ∨
    (s.readByte s.pc ∈ ([0x10, 0x20, 0x21, 0x22, 0x23, 0x24, 0x25, 0x26, 0x27] : List Byte) ∧
      s.readByte (s.pc + 1) &&& 0x88 ≠ 0) →
    step s = .next (faultedState s)

/-- An opcode with a pair selector and a selector with a bit set that must be 0, or with pair code 3 where `SP` is not
admitted, is the fault transition. That is the spec's own decision D4 (30_encoding.md section 2). -/
def Obligations.InvalidPairSelectorFaults : Prop :=
  ∀ s : State, s.run = .running →
    (s.readByte s.pc = 0x1A ∧ s.readByte (s.pc + 1) &&& 0xFC ≠ 0) ∨
    (s.readByte s.pc ∈ ([0x3A, 0x3B, 0x63, 0x64] : List Byte) ∧
      (s.readByte (s.pc + 1) &&& 0xFC ≠ 0 ∨ s.readByte (s.pc + 1) = 0x03)) ∨
    (s.readByte s.pc ∈ ([0x1B, 0x3C] : List Byte) ∧
      (s.readByte (s.pc + 1) &&& 0xCC ≠ 0 ∨ s.readByte (s.pc + 1) &&& 0x30 = 0x30 ∨
        s.readByte (s.pc + 1) &&& 0x03 = 0x03)) →
    step s = .next (faultedState s)

/-- A pair instruction naming `SP` where it is not admitted is the fault transition too, as a term that no bytes decode
to. The model's choice, log entry 7, after the spec's own decision D4. -/
def Obligations.StackPointerIsNoPairOperand : Prop :=
  ∀ (s : State) (p : Pair),
    exec (.inc16 .sp) s = .next (faultedState s) ∧ exec (.dec16 .sp) s = .next (faultedState s) ∧
    exec (.push16 .sp) s = .next (faultedState s) ∧ exec (.pop16 .sp) s = .next (faultedState s) ∧
    exec (.mov16 .sp p) s = .next (faultedState s) ∧ exec (.mov16 p .sp) s = .next (faultedState s) ∧
    exec (.add16 .sp p) s = .next (faultedState s) ∧ exec (.add16 p .sp) s = .next (faultedState s)

/-- A relative branch with the assembler's offset byte goes to the target the offset was computed from. The base of the
branch is the spec's own decision D9, the assembler's offset its D25, and the distance taken modulo 65536 the model's reading,
log entry 9. -/
def Obligations.AssembledOffsetReachesTarget : Prop :=
  ∀ (s : State) (target : Word) (off : Byte), relOffset s.pc target = some off →
    ∃ t, exec (.jr off) s = .next t ∧ t.pc = target

/-! ### The step -/

/-- When the bytes at `PC` decode to an instruction, the step of a running core is `exec` of it, then the interrupt
check on the state it gives (30_encoding.md section 7). -/
def Obligations.StepRunsDecodedInstruction : Prop :=
  ∀ (s : State) (i : Instr) (rest : List Byte), s.run = .running →
    decode [s.readByte s.pc, s.readByte (s.pc + 1), s.readByte (s.pc + 2), s.readByte (s.pc + 3)] = .instr i rest →
    ∃ t, exec i s = .next t ∧ step s = .next (if t.ie = true ∧ t.irqp = true then t.enterInterrupt else t)

/-- Every step gives a next state, from every state: nothing stops the machine but its own `RUN` state
(60_exceptions.md section 1). That a fault is a next state with `RUN` faulted is log entry 6. -/
def Obligations.EveryStepGivesANextState : Prop :=
  ∀ s : State, ∃ t, step s = .next t

/-- R302: a step that faults changes `RUN` and `FAULT_REASON` and nothing else, and returns `Faulted`. -/
def Obligations.FaultChangesOnlyRunAndReason : Prop :=
  ∀ s t : State, s.run ≠ .faulted → step s = .next t → t.run = .faulted →
    t.regs = s.regs ∧ t.sp = s.sp ∧ t.pc = s.pc ∧ t.flags = s.flags ∧ t.ie = s.ie ∧ t.irqp = s.irqp ∧ t.mem = s.mem ∧
    t.ports = s.ports ∧ t.faultReason = .invalidOpcode ∧ t.result = .faulted .invalidOpcode

/-- A faulted core's step changes nothing; a raise sets `IRQP` alone; only reset leaves the state
(60_exceptions.md section 1). What a step and a raise do then is the spec's own decision D18. -/
def Obligations.FaultedCoreIsFrozen : Prop :=
  ∀ s : State, s.run = .faulted →
    step s = .next s ∧ s.result = .faulted s.faultReason ∧
    s.hostAct .raiseInterrupt = { s with irqp := true } ∧
    (∀ a, (s.hostAct a).run ≠ .faulted → ∃ initPc initSp, a = .reset initPc initSp) ∧
    ∀ initPc initSp, (s.hostAct (.reset initPc initSp)).run = .running ∧ (s.hostAct (.reset initPc initSp)).irqp = false

/-- `HLT` enters the halted state after itself; a halted step runs the interrupt check alone, which wakes
the core with `PC` at the handler or changes nothing (45_flags_interrupt_system.md section 3, 60_exceptions.md section 4). The
halted step is the spec's own decision D17. -/
def Obligations.HaltedCoreWaitsForTheInterrupt : Prop :=
  (encode .hlt = [0x01] ∧ ∀ s : State, ∃ t, exec .hlt s = .next t ∧ t.run = .halted ∧ Advanced 1 s t ∧
    RegMemFrame [] [] s t ∧ t.sp = s.sp ∧ t.flags = s.flags ∧ t.ie = s.ie ∧ t.irqp = s.irqp ∧
    t.faultReason = s.faultReason ∧ t.ports = s.ports) ∧
  ∀ s : State, s.run = .halted →
    (s.ie = true → s.irqp = true → ∃ t, step s = .next t ∧ t.run = .running ∧ t.result = .continued ∧ t.ie = false ∧
      t.irqp = false ∧ t.sp = s.sp - 2 ∧ t.pc = wordOf (t.readByte 0x01FF) (t.readByte 0x01FE) ∧
      t.readByte (s.sp - 1) = hiByte s.pc ∧ t.readByte (s.sp - 2) = loByte s.pc ∧ t.flags = s.flags ∧
      RegMemFrame [] [s.sp - 1, s.sp - 2] s t) ∧
    (s.ie = false ∨ s.irqp = false → step s = .next s ∧ s.result = .halted)

/-- R318: the check's condition is `IE = 1` and `IRQP = 1` on the values after the instruction; the step ends with the
entry exactly then. -/
def Obligations.InterruptTakenExactlyWhenEnabledAndPending : Prop :=
  ∀ s t : State, instructionPhase s = .next t → t.run ≠ .faulted →
    (t.ie = true ∧ t.irqp = true → step s = .next t.enterInterrupt) ∧
    (¬(t.ie = true ∧ t.irqp = true) → step s = .next t)

/-- What interrupt entry does to the state after the instruction (60_exceptions.md section 4). That the vector is read after
the push, and that entry saves and changes nothing else, are the spec's own inferences. -/
def Obligations.InterruptEntrySavesOnlyPc : Prop :=
  ∀ s t : State, instructionPhase s = .next t → t.run ≠ .faulted → t.ie = true → t.irqp = true →
    ∃ u, step s = .next u ∧ u.ie = false ∧ u.irqp = false ∧ u.run = .running ∧ u.sp = t.sp - 2 ∧
      u.readByte (t.sp - 1) = hiByte t.pc ∧ u.readByte (t.sp - 2) = loByte t.pc ∧
      u.pc = wordOf (u.readByte 0x01FF) (u.readByte 0x01FE) ∧ u.flags = t.flags ∧ u.faultReason = t.faultReason ∧
      u.ports = t.ports ∧ RegMemFrame [] [t.sp - 1, t.sp - 2] t u

/-- How `RUN` can change in a step: faulted for good, halted until an accepted interrupt, halted by `HLT` alone, faulted
by bytes that decode to no instruction alone (10_state.md section 4, 60_exceptions.md section 1). The halted and faulted
steps are the spec's own decisions D17 and D18. -/
def Obligations.RunStateTransitions : Prop :=
  ∀ s t : State, step s = .next t →
    (s.run = .faulted → t.run = .faulted) ∧
    (s.run = .halted → (s.ie = true ∧ s.irqp = true ∧ t.run = .running) ∨ t = s) ∧
    (s.run = .running → t.run = .halted → s.readByte s.pc = 0x01) ∧
    (s.run = .running → t.run = .faulted → ∀ (i : Instr) (rest : List Byte),
      decode [s.readByte s.pc, s.readByte (s.pc + 1), s.readByte (s.pc + 2), s.readByte (s.pc + 3)] ≠ .instr i rest)

/-- The invariant of the machine is kept by every step: memory has the model's canonical form (log entry 1), and the
recorded reason is that of 10_state.md section 4 and 60_exceptions.md section 1. -/
def Obligations.StepKeepsTheMachineInvariant : Prop :=
  ∀ s t : State, s.Inv → step s = .next t → t.Inv

/-- The state after reset meets the invariant of the machine (10_state.md section 6; log entry 1). -/
def Obligations.ResetStateMeetsTheInvariant : Prop := State.reset.Inv

/-- Every host action between two steps keeps the invariant of the machine (10_state.md section 5; log entries 1 and 8). -/
def Obligations.HostActionsKeepTheMachineInvariant : Prop :=
  ∀ (s : State) (a : HostAction), s.Inv → (s.hostAct a).Inv

/-- Once a run is over, no number of steps changes the state: an inference the spec marks as its own
(70_reset_and_hazards.md section 2). -/
def Obligations.FinishedRunNeverMovesAgain : Prop :=
  ∀ (s : State) (n : Nat), s.runOver → Host.Core.run Sys2Proof.core n s = .next s

/-! ### Reset and load -/

/-- Every core register after reset, from any state; memory and the port interface are not touched
(70_reset_and_hazards.md section 1). The clearing of `IE`, `IRQP`, `RUN` and `FAULT_REASON` is the spec's own decision D15. -/
def Obligations.HostResetSetsTheCoreState : Prop :=
  ∀ (s : State) (initPc initSp : Word), ∃ t, s.hostAct (.reset initPc initSp) = t ∧
    (∀ r, t.reg r = 0) ∧ t.flags = ⟨false, false, false, false⟩ ∧ t.pc = initPc ∧ t.sp = initSp ∧ t.ie = false ∧
    t.irqp = false ∧ t.run = .running ∧ t.faultReason = .none ∧ t.mem = s.mem ∧ t.ports = s.ports

/-- The loader's bytes are read back at consecutive addresses, and no other byte and no register changes
(70_reset_and_hazards.md section 2). The wrap at the top of memory is the spec's own decision D22. -/
def Obligations.LoadedImageReadsBack : Prop :=
  ∀ (s : State) (a : Word) (bytes : List Byte), bytes.length ≤ 65536 → ∃ t, s.hostAct (.load a bytes) = t ∧
    (∀ k (h : k < bytes.length), t.readByte (a + BitVec.ofNat 16 k) = bytes[k]) ∧
    (∀ x : Word, (∀ k, k < bytes.length → x ≠ a + BitVec.ofNat 16 k) → t.readByte x = s.readByte x) ∧
    t = { s with mem := t.mem }

/-! ### Data movement and ports -/

/-- R121, R122: the register written, and that flags, memory and everything else but `PC` stay. -/
def Obligations.MoveAndLoadImmediate : Prop :=
  (∀ (d r : Reg) (s : State), encode (.mov d r) = [0x10, reg2Sel d r] ∧
    ∃ t, exec (.mov d r) s = .next t ∧ t.reg d = s.reg r ∧ t.flags = s.flags ∧ RegisterOnly [d] 2 s t) ∧
  (∀ (d : Reg) (imm : Byte) (s : State), encode (.ldi d imm) = [0x11, regSel d, imm] ∧
    ∃ t, exec (.ldi d imm) s = .next t ∧ t.reg d = imm ∧ t.flags = s.flags ∧ RegisterOnly [d] 3 s t)

/-- R123, R124, R125, R129: a load reads the byte at its effective address, formed before the register is written. -/
def Obligations.LoadsReadTheEffectiveAddress : Prop :=
  (∀ (d : Reg) (a : Word) (s : State), encode (.ldAbs d a) = [0x12, regSel d, loByte a, hiByte a] ∧
    ∃ t, exec (.ldAbs d a) s = .next t ∧ t.reg d = s.readByte a ∧ t.flags = s.flags ∧ RegisterOnly [d] 4 s t) ∧
  (∀ (d : Reg) (s : State), encode (.ldHl d) = [0x13, regSel d] ∧
    ∃ t, exec (.ldHl d) s = .next t ∧ t.reg d = s.readByte (wordOf (s.reg .r5) (s.reg .r6)) ∧ t.flags = s.flags ∧
      RegisterOnly [d] 2 s t) ∧
  (∀ (d : Reg) (disp : Byte) (s : State), encode (.ldHlD d disp) = [0x14, regSel d, disp] ∧
    ∃ t, exec (.ldHlD d disp) s = .next t ∧
      t.reg d = s.readByte (wordOf (s.reg .r5) (s.reg .r6) + BitVec.ofInt 16 disp.toInt) ∧ t.flags = s.flags ∧
      RegisterOnly [d] 3 s t) ∧
  (∀ (d : Reg) (zp : Byte) (s : State), encode (.ldz d zp) = [0x18, regSel d, zp] ∧
    ∃ t, exec (.ldz d zp) s = .next t ∧ t.reg d = s.readByte (BitVec.ofNat 16 zp.toNat) ∧ t.flags = s.flags ∧
      RegisterOnly [d] 3 s t)

/-- R126, R127, R128, R130: a store writes the register to the byte at its effective address and to no other. -/
def Obligations.StoresWriteTheEffectiveAddress : Prop :=
  (∀ (r : Reg) (a : Word) (s : State), encode (.stAbs r a) = [0x15, regSel r, loByte a, hiByte a] ∧
    ∃ t, exec (.stAbs r a) s = .next t ∧ t.readByte a = s.reg r ∧ RegMemFrame [] [a] s t ∧ t.sp = s.sp ∧
      t.flags = s.flags ∧ ControlSame s t ∧ Advanced 4 s t) ∧
  (∀ (r : Reg) (s : State) (ea : Word), encode (.stHl r) = [0x16, regSel r] ∧
    (ea = wordOf (s.reg .r5) (s.reg .r6) →
      ∃ t, exec (.stHl r) s = .next t ∧ t.readByte ea = s.reg r ∧ RegMemFrame [] [ea] s t ∧ t.sp = s.sp ∧
        t.flags = s.flags ∧ ControlSame s t ∧ Advanced 2 s t)) ∧
  (∀ (r : Reg) (disp : Byte) (s : State) (ea : Word), encode (.stHlD r disp) = [0x17, regSel r, disp] ∧
    (ea = wordOf (s.reg .r5) (s.reg .r6) + BitVec.ofInt 16 disp.toInt →
      ∃ t, exec (.stHlD r disp) s = .next t ∧ t.readByte ea = s.reg r ∧ RegMemFrame [] [ea] s t ∧ t.sp = s.sp ∧
        t.flags = s.flags ∧ ControlSame s t ∧ Advanced 3 s t)) ∧
  (∀ (r : Reg) (zp : Byte) (s : State) (ea : Word), encode (.stz r zp) = [0x19, regSel r, zp] ∧
    (ea = BitVec.ofNat 16 zp.toNat →
      ∃ t, exec (.stz r zp) s = .next t ∧ t.readByte ea = s.reg r ∧ RegMemFrame [] [ea] s t ∧ t.sp = s.sp ∧
        t.flags = s.flags ∧ ControlSame s t ∧ Advanced 3 s t))

/-- R131: `LDI16` to a pair of general registers, and to `SP`. -/
def Obligations.LoadImmediateWord : Prop :=
  (∀ (p : Pair) (imm : Word), encode (.ldi16 p imm) = [0x1A, pairSel p, loByte imm, hiByte imm]) ∧
  (∀ (p : Pair) (imm : Word) (s : State), p ≠ .sp →
    ∃ t, exec (.ldi16 p imm) s = .next t ∧ t.reg (pairHigh p) = hiByte imm ∧ t.reg (pairLow p) = loByte imm ∧
      t.flags = s.flags ∧ RegisterOnly (pairRegs p) 4 s t) ∧
  (∀ (imm : Word) (s : State), ∃ t, exec (.ldi16 .sp imm) s = .next t ∧ t.sp = imm ∧ RegMemFrame [] [] s t ∧
    t.flags = s.flags ∧ ControlSame s t ∧ Advanced 4 s t)

/-- `MOV16` between pairs of general registers (40_data_movement.md). Its operand form is the spec's own decision D7, and
that `SP` is not admitted its D4. -/
def Obligations.CopyPair : Prop :=
  ∀ (pd ps : Pair) (s : State), encode (.mov16 pd ps) = [0x1B, pair2Sel pd ps] ∧
    (pd ≠ .sp → ps ≠ .sp →
      ∃ t, exec (.mov16 pd ps) s = .next t ∧ t.pair pd = s.pair ps ∧ t.flags = s.flags ∧
        RegisterOnly (pairRegs pd) 2 s t)

/-- `IN` gives 0 with no capability attached and the host's answer otherwise; `OUT` is one more output event
(40_data_movement.md, 20_memory.md section 7). The operand forms and the flags are the spec's own decision D14; the record of the
host's end is the model's, log entry 2. -/
def Obligations.PortInstructions : Prop :=
  (∀ (d : Reg) (port : Byte) (s : State), encode (.inPort d port) = [0x1C, regSel d, port] ∧
    ∃ t, exec (.inPort d port) s = .next t ∧
      t.reg d = (if s.ports.attached = true then Config.portAnswer s.ports.reads port else 0) ∧
      t.ports = { s.ports with reads := s.ports.reads + if s.ports.attached = true then 1 else 0 } ∧
      t.flags = s.flags ∧ RegMemFrame [d] [] s t ∧ t.sp = s.sp ∧ t.ie = s.ie ∧ t.irqp = s.irqp ∧ t.run = s.run ∧
      t.faultReason = s.faultReason ∧ Advanced 3 s t) ∧
  (∀ (r : Reg) (port : Byte) (s : State), encode (.outPort r port) = [0x1D, regSel r, port] ∧
    ∃ t, exec (.outPort r port) s = .next t ∧
      t.ports = { s.ports with written := s.ports.written ++ [(port, s.reg r)] } ∧
      t.flags = s.flags ∧ RegMemFrame [] [] s t ∧ t.sp = s.sp ∧ t.ie = s.ie ∧ t.irqp = s.irqp ∧ t.run = s.run ∧
      t.faultReason = s.faultReason ∧ Advanced 3 s t)

/-! ### 8-bit arithmetic and logic -/

/-- `ADD`, `ADC`, `ADDI`: the sum and its four flags; `ADC` adds the carry before the instruction (41_alu_arith_logic.md
sections 1 to 3). That the overflow of `ADC` takes the original operand is the spec's own decision D10, and that `ADDI` is `ADD`
with the immediate its D7 (log entry 10). -/
def Obligations.AdditionInstructions : Prop :=
  (∀ (d r : Reg) (s : State), encode (.add d r) = [0x20, reg2Sel d r] ∧
    ∃ t, exec (.add d r) s = .next t ∧ IsSum (s.reg d) (s.reg r) false (t.reg d) t.flags ∧ RegisterOnly [d] 2 s t) ∧
  (∀ (d r : Reg) (s : State), encode (.adc d r) = [0x21, reg2Sel d r] ∧
    ∃ t, exec (.adc d r) s = .next t ∧ IsSum (s.reg d) (s.reg r) s.flags.c (t.reg d) t.flags ∧ RegisterOnly [d] 2 s t) ∧
  (∀ (d : Reg) (imm : Byte) (s : State), encode (.addi d imm) = [0x28, regSel d, imm] ∧
    ∃ t, exec (.addi d imm) s = .next t ∧ IsSum (s.reg d) imm false (t.reg d) t.flags ∧ RegisterOnly [d] 3 s t)

/-- `SUB`, `SBC`, `SUBI`, `NEG`: the difference and its four flags, `C` the borrow; `SBC` takes the carry before the
instruction as borrow; `NEG` subtracts from 0 (41_alu_arith_logic.md sections 1 to 4). That the overflow of `SBC` takes the
original operand is the spec's own decision D10, and that `SUBI` is `SUB` with the immediate its D7 (log entry 10). -/
def Obligations.SubtractionInstructions : Prop :=
  (∀ (d r : Reg) (s : State), encode (.sub d r) = [0x22, reg2Sel d r] ∧
    ∃ t, exec (.sub d r) s = .next t ∧ IsDifference (s.reg d) (s.reg r) false (t.reg d) t.flags ∧
      RegisterOnly [d] 2 s t) ∧
  (∀ (d r : Reg) (s : State), encode (.sbc d r) = [0x23, reg2Sel d r] ∧
    ∃ t, exec (.sbc d r) s = .next t ∧ IsDifference (s.reg d) (s.reg r) s.flags.c (t.reg d) t.flags ∧
      RegisterOnly [d] 2 s t) ∧
  (∀ (d : Reg) (imm : Byte) (s : State), encode (.subi d imm) = [0x29, regSel d, imm] ∧
    ∃ t, exec (.subi d imm) s = .next t ∧ IsDifference (s.reg d) imm false (t.reg d) t.flags ∧ RegisterOnly [d] 3 s t) ∧
  (∀ (d : Reg) (s : State), encode (.neg d) = [0x32, regSel d] ∧
    ∃ t, exec (.neg d) s = .next t ∧ IsDifference 0 (s.reg d) false (t.reg d) t.flags ∧ RegisterOnly [d] 2 s t)

/-- R164, and `CMPI`: a compare writes the flags of the difference and no register. That `CMPI` is `CMP` with the immediate is
the spec's own decision D7 (41_alu_arith_logic.md section 3; log entry 10). -/
def Obligations.CompareInstructions : Prop :=
  (∀ (d r : Reg) (s : State), encode (.cmp d r) = [0x24, reg2Sel d r] ∧
    ∃ t, exec (.cmp d r) s = .next t ∧ IsDifference (s.reg d) (s.reg r) false (s.reg d - s.reg r) t.flags ∧
      RegisterOnly [] 2 s t) ∧
  (∀ (d : Reg) (imm : Byte) (s : State), encode (.cmpi d imm) = [0x2A, regSel d, imm] ∧
    ∃ t, exec (.cmpi d imm) s = .next t ∧ IsDifference (s.reg d) imm false (s.reg d - imm) t.flags ∧
      RegisterOnly [] 3 s t)

/-- R165, R166, R167, R177, and the immediate forms: the logic instructions, bit by bit; `C` and `O` cleared. That each
immediate form is its register form with the immediate is the spec's own decision D7 (41_alu_arith_logic.md section 3; log
entry 10). -/
def Obligations.LogicInstructions : Prop :=
  (∀ (d r : Reg) (s : State), encode (.and d r) = [0x25, reg2Sel d r] ∧ ∃ t, exec (.and d r) s = .next t ∧
    (∀ k, (t.reg d).getLsbD k = ((s.reg d).getLsbD k && (s.reg r).getLsbD k)) ∧ LogicFlags (t.reg d) t.flags ∧
    RegisterOnly [d] 2 s t) ∧
  (∀ (d r : Reg) (s : State), encode (.or d r) = [0x26, reg2Sel d r] ∧ ∃ t, exec (.or d r) s = .next t ∧
    (∀ k, (t.reg d).getLsbD k = ((s.reg d).getLsbD k || (s.reg r).getLsbD k)) ∧ LogicFlags (t.reg d) t.flags ∧
    RegisterOnly [d] 2 s t) ∧
  (∀ (d r : Reg) (s : State), encode (.xor d r) = [0x27, reg2Sel d r] ∧ ∃ t, exec (.xor d r) s = .next t ∧
    (∀ k, (t.reg d).getLsbD k = ((s.reg d).getLsbD k ^^ (s.reg r).getLsbD k)) ∧ LogicFlags (t.reg d) t.flags ∧
    RegisterOnly [d] 2 s t) ∧
  (∀ (d : Reg) (imm : Byte) (s : State), encode (.andi d imm) = [0x2B, regSel d, imm] ∧
    ∃ t, exec (.andi d imm) s = .next t ∧ (∀ k, (t.reg d).getLsbD k = ((s.reg d).getLsbD k && imm.getLsbD k)) ∧
    LogicFlags (t.reg d) t.flags ∧ RegisterOnly [d] 3 s t) ∧
  (∀ (d : Reg) (imm : Byte) (s : State), encode (.ori d imm) = [0x2C, regSel d, imm] ∧
    ∃ t, exec (.ori d imm) s = .next t ∧ (∀ k, (t.reg d).getLsbD k = ((s.reg d).getLsbD k || imm.getLsbD k)) ∧
    LogicFlags (t.reg d) t.flags ∧ RegisterOnly [d] 3 s t) ∧
  (∀ (d : Reg) (imm : Byte) (s : State), encode (.xori d imm) = [0x2D, regSel d, imm] ∧
    ∃ t, exec (.xori d imm) s = .next t ∧ (∀ k, (t.reg d).getLsbD k = ((s.reg d).getLsbD k ^^ imm.getLsbD k)) ∧
    LogicFlags (t.reg d) t.flags ∧ RegisterOnly [d] 3 s t) ∧
  (∀ (d : Reg) (s : State), encode (.not d) = [0x33, regSel d] ∧ ∃ t, exec (.not d) s = .next t ∧
    (t.reg d).toNat = 255 - (s.reg d).toNat ∧ LogicFlags (t.reg d) t.flags ∧ RegisterOnly [d] 2 s t)

/-- R174, R175: `INC` and `DEC` wrap, write `Z`, `S`, `O` and leave `C`. -/
def Obligations.IncrementAndDecrement : Prop :=
  (∀ (d : Reg) (s : State), encode (.inc d) = [0x30, regSel d] ∧ ∃ t, exec (.inc d) s = .next t ∧
    (t.reg d).toNat = ((s.reg d).toNat + 1) % 256 ∧ ZeroSign (t.reg d) t.flags ∧
    (t.flags.o = true ↔ s.reg d = 0x7F) ∧ t.flags.c = s.flags.c ∧ RegisterOnly [d] 2 s t) ∧
  (∀ (d : Reg) (s : State), encode (.dec d) = [0x31, regSel d] ∧ ∃ t, exec (.dec d) s = .next t ∧
    (t.reg d).toNat = ((s.reg d).toNat + 255) % 256 ∧ ZeroSign (t.reg d) t.flags ∧
    (t.flags.o = true ↔ s.reg d = 0x80) ∧ t.flags.c = s.flags.c ∧ RegisterOnly [d] 2 s t)

/-- The overflow flag of an addition is the true signed overflow of the three-term sum: an inference the spec marks as its
own (41_alu_arith_logic.md section 1), and with a carry in its own decision D10 (log entry 10). -/
def Obligations.AdditionOverflowIsSignedOverflow : Prop :=
  ∀ (a b : Byte) (cin : Bool), (add8 a b cin).flags.o = true ↔
    (a.toInt + b.toInt + (cin.toNat : Int) < -128 ∨ 127 < a.toInt + b.toInt + (cin.toNat : Int))

/-- The overflow flag of a subtraction is the true signed overflow of the three-term difference: an inference the spec
marks as its own (41_alu_arith_logic.md section 1), and with a borrow in its own decision D10 (log entry 10). -/
def Obligations.SubtractionOverflowIsSignedOverflow : Prop :=
  ∀ (a b : Byte) (bin : Bool), (sub8 a b bin).flags.o = true ↔
    (a.toInt - b.toInt - (bin.toNat : Int) < -128 ∨ 127 < a.toInt - b.toInt - (bin.toNat : Int))

/-- After a compare `Z` is equality, `C` unsigned less-than, and `S ≠ O` signed less-than: an inference the spec marks as
its own (41_alu_arith_logic.md section 2). -/
def Obligations.CompareFlagsOrderTheOperands : Prop :=
  ∀ (d r : Reg) (s : State), ∃ t, exec (.cmp d r) s = .next t ∧
    (t.flags.z = true ↔ s.reg d = s.reg r) ∧
    (t.flags.c = true ↔ (s.reg d).toNat < (s.reg r).toNat) ∧
    (t.flags.s ≠ t.flags.o ↔ (s.reg d).toInt < (s.reg r).toInt)

/-- The source's flag round trip (vector S1 of 95_test_vectors.md): subtracting what was added gives the first operand
back, and the borrow is the addition's carry. With one register for both operands the trip is not this one: the addition has
changed the subtrahend. -/
def Obligations.SubtractionUndoesAddition : Prop :=
  ∀ (d r : Reg) (s : State), d ≠ r → ∃ t u, exec (.add d r) s = .next t ∧ exec (.sub d r) t = .next u ∧
    u.reg d = s.reg d ∧ u.flags.c = t.flags.c ∧
    (u.flags.c = false ↔ (s.reg d).toNat + (s.reg r).toNat ≤ 255)

/-! ### Shifts, rotates, 16-bit arithmetic -/

/-- `SHL`, `SHR`, `SAR`: shifts by one bit, `C` the bit shifted out (42_alu_shift_rotate_16bit.md section 1). That `Z` and `S`
are written and `O` is unchanged is the spec's own decision D26 (log entry 10). -/
def Obligations.ShiftInstructions : Prop :=
  (∀ (d : Reg) (s : State), encode (.shl d) = [0x34, regSel d] ∧ ∃ t, exec (.shl d) s = .next t ∧
    (t.reg d).toNat = (2 * (s.reg d).toNat) % 256 ∧ ShiftFlags (t.reg d) ((s.reg d).getLsbD 7) s.flags t.flags ∧
    RegisterOnly [d] 2 s t) ∧
  (∀ (d : Reg) (s : State), encode (.shr d) = [0x35, regSel d] ∧ ∃ t, exec (.shr d) s = .next t ∧
    (t.reg d).toNat = (s.reg d).toNat / 2 ∧ ShiftFlags (t.reg d) ((s.reg d).getLsbD 0) s.flags t.flags ∧
    RegisterOnly [d] 2 s t) ∧
  (∀ (d : Reg) (s : State), encode (.sar d) = [0x36, regSel d] ∧ ∃ t, exec (.sar d) s = .next t ∧
    (t.reg d).toNat = (s.reg d).toNat / 2 + 128 * ((s.reg d).toNat / 128) ∧
    ShiftFlags (t.reg d) ((s.reg d).getLsbD 0) s.flags t.flags ∧ RegisterOnly [d] 2 s t)

/-- R206, and the rotates of `C` and the register as one 9-bit unit (42_alu_shift_rotate_16bit.md section 1). That `ROL` and
`ROR` write `Z` and `S` and leave `O` is the spec's own decision D26, and `ROR` as the mirror image its D27 (log entry 10). -/
def Obligations.RotateAndSwapInstructions : Prop :=
  (∀ (d : Reg) (s : State), encode (.rol d) = [0x37, regSel d] ∧ ∃ t, exec (.rol d) s = .next t ∧
    256 * t.flags.c.toNat + (t.reg d).toNat = 2 * (s.reg d).toNat + s.flags.c.toNat ∧
    ShiftFlags (t.reg d) ((s.reg d).getLsbD 7) s.flags t.flags ∧ RegisterOnly [d] 2 s t) ∧
  (∀ (d : Reg) (s : State), encode (.ror d) = [0x38, regSel d] ∧ ∃ t, exec (.ror d) s = .next t ∧
    2 * (t.reg d).toNat + t.flags.c.toNat = 256 * s.flags.c.toNat + (s.reg d).toNat ∧
    ShiftFlags (t.reg d) ((s.reg d).getLsbD 0) s.flags t.flags ∧ RegisterOnly [d] 2 s t) ∧
  (∀ (d : Reg) (s : State), encode (.swap d) = [0x39, regSel d] ∧ ∃ t, exec (.swap d) s = .next t ∧
    (t.reg d).toNat = 16 * ((s.reg d).toNat % 16) + (s.reg d).toNat / 16 ∧ ZeroSign (t.reg d) t.flags ∧
    t.flags.c = s.flags.c ∧ t.flags.o = s.flags.o ∧ RegisterOnly [d] 2 s t)

/-- `ROR` undoes `ROL` exactly, register and carry (42_alu_shift_rotate_16bit.md section 1; `ROR` is the spec's own
decision D27). -/
def Obligations.RotateRightUndoesRotateLeft : Prop :=
  ∀ (d : Reg) (s : State), ∃ t u, exec (.rol d) s = .next t ∧ exec (.ror d) t = .next u ∧
    u.regs = s.regs ∧ u.flags.c = s.flags.c

/-- 16-bit arithmetic on pairs of general registers, wrapping (42_alu_shift_rotate_16bit.md section 2). The flags are the
spec's own decision D11, the operand forms its D4 and D7. -/
def Obligations.WideArithmetic : Prop :=
  (∀ (p : Pair) (s : State), encode (.inc16 p) = [0x3A, pairSel p] ∧ (p ≠ .sp →
    ∃ t, exec (.inc16 p) s = .next t ∧ (t.pair p).toNat = ((s.pair p).toNat + 1) % 65536 ∧
      WideFlags (t.pair p) s.flags t.flags ∧ RegisterOnly (pairRegs p) 2 s t)) ∧
  (∀ (p : Pair) (s : State), encode (.dec16 p) = [0x3B, pairSel p] ∧ (p ≠ .sp →
    ∃ t, exec (.dec16 p) s = .next t ∧ (t.pair p).toNat = ((s.pair p).toNat + 65535) % 65536 ∧
      WideFlags (t.pair p) s.flags t.flags ∧ RegisterOnly (pairRegs p) 2 s t)) ∧
  (∀ (pd ps : Pair) (s : State), encode (.add16 pd ps) = [0x3C, pair2Sel pd ps] ∧ (pd ≠ .sp → ps ≠ .sp →
    ∃ t, exec (.add16 pd ps) s = .next t ∧ (t.pair pd).toNat = ((s.pair pd).toNat + (s.pair ps).toNat) % 65536 ∧
      WideFlags (t.pair pd) s.flags t.flags ∧ RegisterOnly (pairRegs pd) 2 s t))

/-! ### Control transfer -/

/-- R222, R240, and the conditional absolute jumps (43_control_flow.md section 1): they change `PC` and nothing else. That
`JMP` has all eight conditional variants, and their mnemonics, are the spec's own decision D8 (log entry 10). -/
def Obligations.AbsoluteJumps : Prop :=
  (∀ a : Word, encode (.jmp a) = [0x40, loByte a, hiByte a] ∧ encode (.jz a) = [0x41, loByte a, hiByte a] ∧
    encode (.jnz a) = [0x42, loByte a, hiByte a] ∧ encode (.jc a) = [0x43, loByte a, hiByte a] ∧
    encode (.jnc a) = [0x44, loByte a, hiByte a] ∧ encode (.js a) = [0x45, loByte a, hiByte a] ∧
    encode (.jns a) = [0x46, loByte a, hiByte a] ∧ encode (.jo a) = [0x47, loByte a, hiByte a] ∧
    encode (.jno a) = [0x48, loByte a, hiByte a] ∧ encode .jpHl = [0x0B]) ∧
  ∀ (a : Word) (s : State),
    exec (.jmp a) s = .next { s with pc := a } ∧
    exec (.jz a) s = .next { s with pc := if s.flags.z = true then a else s.pc + 3 } ∧
    exec (.jnz a) s = .next { s with pc := if s.flags.z = false then a else s.pc + 3 } ∧
    exec (.jc a) s = .next { s with pc := if s.flags.c = true then a else s.pc + 3 } ∧
    exec (.jnc a) s = .next { s with pc := if s.flags.c = false then a else s.pc + 3 } ∧
    exec (.js a) s = .next { s with pc := if s.flags.s = true then a else s.pc + 3 } ∧
    exec (.jns a) s = .next { s with pc := if s.flags.s = false then a else s.pc + 3 } ∧
    exec (.jo a) s = .next { s with pc := if s.flags.o = true then a else s.pc + 3 } ∧
    exec (.jno a) s = .next { s with pc := if s.flags.o = false then a else s.pc + 3 } ∧
    exec .jpHl s = .next { s with pc := wordOf (s.reg .r5) (s.reg .r6) }

/-- The relative jumps, from the following instruction's address, change `PC` and nothing else (43_control_flow.md
section 2). The base is the spec's own decision D9, the mnemonics its D8. -/
def Obligations.RelativeJumps : Prop :=
  (∀ off : Byte, encode (.jr off) = [0x50, off] ∧ encode (.jrz off) = [0x51, off] ∧ encode (.jrnz off) = [0x52, off] ∧
    encode (.jrc off) = [0x53, off] ∧ encode (.jrnc off) = [0x54, off] ∧ encode (.jrs off) = [0x55, off] ∧
    encode (.jrns off) = [0x56, off] ∧ encode (.jro off) = [0x57, off] ∧ encode (.jrno off) = [0x58, off]) ∧
  ∀ (off : Byte) (s : State) (target : Word), target = s.pc + 2 + BitVec.ofInt 16 off.toInt →
    exec (.jr off) s = .next { s with pc := target } ∧
    exec (.jrz off) s = .next { s with pc := if s.flags.z = true then target else s.pc + 2 } ∧
    exec (.jrnz off) s = .next { s with pc := if s.flags.z = false then target else s.pc + 2 } ∧
    exec (.jrc off) s = .next { s with pc := if s.flags.c = true then target else s.pc + 2 } ∧
    exec (.jrnc off) s = .next { s with pc := if s.flags.c = false then target else s.pc + 2 } ∧
    exec (.jrs off) s = .next { s with pc := if s.flags.s = true then target else s.pc + 2 } ∧
    exec (.jrns off) s = .next { s with pc := if s.flags.s = false then target else s.pc + 2 } ∧
    exec (.jro off) s = .next { s with pc := if s.flags.o = true then target else s.pc + 2 } ∧
    exec (.jrno off) s = .next { s with pc := if s.flags.o = false then target else s.pc + 2 }

/-- R241: `CALL` pushes the following instruction's address, high byte first, and goes to its target. -/
def Obligations.CallPushesTheReturnAddress : Prop :=
  ∀ (a : Word) (s : State), encode (.call a) = [0x60, loByte a, hiByte a] ∧
    ∃ t, exec (.call a) s = .next t ∧ t.pc = a ∧ t.sp = s.sp - 2 ∧
      t.readByte (s.sp - 1) = hiByte (s.pc + 3) ∧ t.readByte (s.sp - 2) = loByte (s.pc + 3) ∧
      RegMemFrame [] [s.sp - 1, s.sp - 2] s t ∧ t.flags = s.flags ∧ ControlSame s t

/-- R242, and `RETI`'s effect (45_flags_interrupt_system.md section 2): `RET` and `RETI` pop `PC`, low byte first;
`RETI` also sets `IE`, and `RET` does not touch it. -/
def Obligations.ReturnsPopTheProgramCounter : Prop :=
  (∀ s : State, encode .ret = [0x07] ∧ ∃ t, exec .ret s = .next t ∧
    t.pc = wordOf (s.readByte (s.sp + 1)) (s.readByte s.sp) ∧ t.sp = s.sp + 2 ∧ RegMemFrame [] [] s t ∧
    t.flags = s.flags ∧ ControlSame s t) ∧
  (∀ s : State, encode .reti = [0x08] ∧ ∃ t, exec .reti s = .next t ∧
    t.pc = wordOf (s.readByte (s.sp + 1)) (s.readByte s.sp) ∧ t.sp = s.sp + 2 ∧ t.ie = true ∧ RegMemFrame [] [] s t ∧
    t.flags = s.flags ∧ t.irqp = s.irqp ∧ t.run = s.run ∧ t.faultReason = s.faultReason ∧ t.ports = s.ports)

/-- `RET` right after a `CALL` comes back to the instruction after it, with `SP` as before (43_control_flow.md section 3,
20_memory.md section 5). -/
def Obligations.ReturnUndoesCall : Prop :=
  ∀ (a : Word) (s : State), ∃ t u, exec (.call a) s = .next t ∧ exec .ret t = .next u ∧
    u.pc = s.pc + 3 ∧ u.sp = s.sp ∧ u.regs = s.regs ∧ u.flags = s.flags ∧ ControlSame s u

/-! ### Stack -/

/-- R261, R262: `PUSH` decrements `SP` then stores; `POP` loads then increments, and leaves the byte in memory. -/
def Obligations.PushAndPopByte : Prop :=
  (∀ (r : Reg) (s : State), encode (.push r) = [0x61, regSel r] ∧ ∃ t, exec (.push r) s = .next t ∧
    t.sp = s.sp - 1 ∧ t.readByte (s.sp - 1) = s.reg r ∧ RegMemFrame [] [s.sp - 1] s t ∧ t.flags = s.flags ∧
    ControlSame s t ∧ Advanced 2 s t) ∧
  (∀ (d : Reg) (s : State), encode (.pop d) = [0x62, regSel d] ∧ ∃ t, exec (.pop d) s = .next t ∧
    t.reg d = s.readByte s.sp ∧ t.sp = s.sp + 1 ∧ RegMemFrame [d] [] s t ∧ t.flags = s.flags ∧ ControlSame s t ∧
    Advanced 2 s t)

/-- The pair's high byte is pushed first, so it lies above the low byte, and the low byte is popped first (44_stack.md;
90_conflicts.md C2). That `SP` is no operand is the spec's own decision D4. -/
def Obligations.PushAndPopPair : Prop :=
  (∀ (p : Pair) (s : State), encode (.push16 p) = [0x63, pairSel p] ∧ (p ≠ .sp →
    ∃ t, exec (.push16 p) s = .next t ∧ t.sp = s.sp - 2 ∧ t.readByte (s.sp - 1) = s.reg (pairHigh p) ∧
      t.readByte (s.sp - 2) = s.reg (pairLow p) ∧ RegMemFrame [] [s.sp - 1, s.sp - 2] s t ∧ t.flags = s.flags ∧
      ControlSame s t ∧ Advanced 2 s t)) ∧
  (∀ (p : Pair) (s : State), encode (.pop16 p) = [0x64, pairSel p] ∧ (p ≠ .sp →
    ∃ t, exec (.pop16 p) s = .next t ∧ t.sp = s.sp + 2 ∧ t.reg (pairHigh p) = s.readByte (s.sp + 1) ∧
      t.reg (pairLow p) = s.readByte s.sp ∧ RegMemFrame (pairRegs p) [] s t ∧ t.flags = s.flags ∧
      ControlSame s t ∧ Advanced 2 s t))

/-- `PUSHF` stores the flags byte, reserved bits 0; `POPF` loads the four flags and discards the rest (44_stack.md). Both are
the spec's own decision D12, the bit positions its D6. -/
def Obligations.PushAndPopFlags : Prop :=
  (∀ s : State, encode .pushf = [0x09] ∧ ∃ t, exec .pushf s = .next t ∧ t.sp = s.sp - 1 ∧
    (t.readByte (s.sp - 1)).toNat =
      128 * s.flags.s.toNat + 64 * s.flags.z.toNat + 4 * s.flags.o.toNat + s.flags.c.toNat ∧
    RegMemFrame [] [s.sp - 1] s t ∧ t.flags = s.flags ∧ ControlSame s t ∧ Advanced 1 s t) ∧
  (∀ s : State, encode .popf = [0x0A] ∧ ∃ t, exec .popf s = .next t ∧ t.sp = s.sp + 1 ∧
    t.flags.s = (s.readByte s.sp).getLsbD 7 ∧ t.flags.z = (s.readByte s.sp).getLsbD 6 ∧
    t.flags.o = (s.readByte s.sp).getLsbD 2 ∧ t.flags.c = (s.readByte s.sp).getLsbD 0 ∧
    RegMemFrame [] [] s t ∧ ControlSame s t ∧ Advanced 1 s t)

/-- Popping a pair into any pair right after pushing one copies it, and `SP` is as before (44_stack.md; 90_conflicts.md C2). -/
def Obligations.PopPairUndoesPushPair : Prop :=
  ∀ (p q : Pair) (s : State), p ≠ .sp → q ≠ .sp → ∃ t u, exec (.push16 p) s = .next t ∧ exec (.pop16 q) t = .next u ∧
    u.pair q = s.pair p ∧ u.sp = s.sp ∧ ∀ r, r ∉ pairRegs q → u.reg r = s.reg r

/-! ### Flags, interrupt control, system -/

/-- `SCF` sets, `CCF` clears, `CMF` complements `C`; no other flag and nothing but `PC` changes
(45_flags_interrupt_system.md section 1). Which of the three does which is the spec's own decision D28 (log entry 10). -/
def Obligations.CarryInstructions : Prop :=
  encode .scf = [0x04] ∧ encode .ccf = [0x05] ∧ encode .cmf = [0x06] ∧
  ∀ s : State,
    exec .scf s = .next { s with flags := { s.flags with c := true }, pc := s.pc + 1 } ∧
    exec .ccf s = .next { s with flags := { s.flags with c := false }, pc := s.pc + 1 } ∧
    exec .cmf s = .next { s with flags := { s.flags with c := !s.flags.c }, pc := s.pc + 1 }

/-- `EI` and `DI` write `IE`, `NOP` nothing; `PC` moves past the instruction (45_flags_interrupt_system.md sections 2 and
3). The direction of `EI` and `DI` is the spec's own decision D29. -/
def Obligations.InterruptEnableAndNop : Prop :=
  encode .ei = [0x02] ∧ encode .di = [0x03] ∧ encode .nop = [0x00] ∧
  ∀ s : State,
    exec .ei s = .next { s with ie := true, pc := s.pc + 1 } ∧
    exec .di s = .next { s with ie := false, pc := s.pc + 1 } ∧
    exec .nop s = .next { s with pc := s.pc + 1 }

/-- With a request pending, the step of `EI` enters the interrupt at once: the following instruction's address is pushed
and the core runs on at the vector. An inference the spec marks as its own (45_flags_interrupt_system.md section 2); the
vector read after the push is another (60_exceptions.md section 4). -/
def Obligations.EnableTakesAPendingRequestAtOnce : Prop :=
  ∀ s : State, s.run = .running → s.readByte s.pc = 0x02 → s.irqp = true →
    ∃ t, step s = .next t ∧ t.ie = false ∧ t.irqp = false ∧ t.sp = s.sp - 2 ∧
      t.readByte (s.sp - 1) = hiByte (s.pc + 1) ∧ t.readByte (s.sp - 2) = loByte (s.pc + 1) ∧
      t.pc = wordOf (t.readByte 0x01FF) (t.readByte 0x01FE) ∧ t.run = .running

/-! ### The whole instruction set -/

/-- No instruction writes `IRQP`, and none but `EI`, `DI`, `RETI` writes `IE` (10_state.md section 4). -/
def Obligations.OnlyInterruptControlWritesTheEnable : Prop :=
  ∀ (i : Instr) (s t : State), exec i s = .next t →
    t.irqp = s.irqp ∧ (i ≠ .ei → i ≠ .di → i ≠ .reti → t.ie = s.ie)

/-- The flag matrix (41_alu_arith_logic.md section 1): an instruction leaves every flag whose entry is not w or 0. The rows
of the shifts and of the 16-bit instructions are the spec's own decisions D26 and D11. -/
def Obligations.FlagMatrixIsRespected : Prop :=
  ∀ (i : Instr) (s t : State), exec i s = .next t →
    (i.flagsWritten.s = false → t.flags.s = s.flags.s) ∧ (i.flagsWritten.z = false → t.flags.z = s.flags.z) ∧
    (i.flagsWritten.o = false → t.flags.o = s.flags.o) ∧ (i.flagsWritten.c = false → t.flags.c = s.flags.c)

/-- An instruction changes no byte of memory but the ones it stores to (20_memory.md section 3). -/
def Obligations.MemoryWrittenOnlyByStores : Prop :=
  ∀ (i : Instr) (s t : State), exec i s = .next t →
    ∀ a, a ∉ i.storedBytes s → t.readByte a = s.readByte a

/-- An instruction changes no general register but its destinations, and `SP` only where 10_state.md section 2 says. -/
def Obligations.RegistersWrittenOnlyAsDestinations : Prop :=
  ∀ (i : Instr) (s t : State), exec i s = .next t →
    (∀ r, r ∉ i.destRegs → t.reg r = s.reg r) ∧ (i.writesSp = false → t.sp = s.sp)

/-- An instruction that does not redirect control ends with `PC` past its own bytes (10_state.md section 2). -/
def Obligations.SequentialInstructionsAdvanceByTheirLength : Prop :=
  ∀ (i : Instr) (s t : State), i.wellFormed = true → i.redirects = false → exec i s = .next t →
    t.pc = s.pc + BitVec.ofNat 16 (encode i).length

/-- `IRQP` is hidden: what an instruction does is the same with and without a request pending (10_state.md section 4). -/
def Obligations.PendingRequestIsHiddenFromInstructions : Prop :=
  ∀ (i : Instr) (s t : State) (b : Bool), exec i s = .next t →
    exec i { s with irqp := b } = .next { t with irqp := b }

/-- Only `IN` and `OUT` reach the port interface (20_memory.md section 7). -/
def Obligations.OnlyPortInstructionsReachThePorts : Prop :=
  ∀ (i : Instr) (s t : State), exec i s = .next t →
    (∀ d p, i ≠ .inPort d p) → (∀ r p, i ≠ .outPort r p) → t.ports = s.ports
end

