-- ==== Sys2Proof/Laws/Memory.lean ====
section
/-! SUPPORT. The laws of memory: a read after a write, and that every memory operation keeps the canonical form. -/

namespace Sys2Proof.Machine

/-- A write changes the byte written at its address and at no other. -/
theorem Memory.written_store (m : List Host.Cell) (a : Nat) (v : Byte) (b : Nat) :
    Memory.written (Memory.store m a v) b = if b = a then some v else Memory.written m b := by
  induction m with
  | nil => rfl
  | cons cell rest ih =>
    obtain ⟨c, w⟩ := cell
    unfold Memory.store
    split
    · rfl
    · split
      · next hac => simp only [Memory.written, hac]; split <;> rfl
      · next hac =>
        simp only [Memory.written, ih]
        split
        · next hbc => simp [show b ≠ a from fun e => hac (e ▸ hbc)]
        · rfl

/-- A read after a write to the same place gives the value written; every other place reads as before (R51, R52). -/
theorem Memory.read_write (m : List Host.Cell) (a : Word) (v : Byte) (b : Word) :
    Memory.read (Memory.write m a v) b = if b = a then v else Memory.read m b := by
  unfold Memory.read Memory.write
  rw [Memory.written_store]
  by_cases h : b = a
  · simp [h]
  · have : b.toNat ≠ a.toNat := fun e => h (BitVec.eq_of_toNat_eq e)
    simp [h, this]

theorem Memory.risingFrom_store (m : List Host.Cell) (lo a : Nat) (v : Byte) (hlo : lo ≤ a) (ha : a < 65536)
    (h : Memory.risingFrom lo m = true) : Memory.risingFrom lo (Memory.store m a v) = true := by
  induction m generalizing lo with
  | nil => simp [Memory.store, Memory.risingFrom, hlo, ha]
  | cons cell rest ih =>
    obtain ⟨c, w⟩ := cell
    simp only [Memory.risingFrom, Bool.and_eq_true, decide_eq_true_eq] at h
    obtain ⟨⟨h₁, h₂⟩, h₃⟩ := h
    unfold Memory.store
    split
    · next hac =>
      have : a + 1 ≤ c := hac
      simp [Memory.risingFrom, hlo, ha, this, h₂, h₃]
    · split
      · next hac => subst hac; simp [Memory.risingFrom, hlo, ha, h₃]
      · have hc : c + 1 ≤ a := by omega
        simp [Memory.risingFrom, h₁, h₂, ih (c + 1) hc h₃]

/-- A write keeps the canonical form. -/
theorem Memory.wf_write (m : List Host.Cell) (a : Word) (v : Byte) (h : Memory.wf m = true) :
    Memory.wf (Memory.write m a v) = true :=
  Memory.risingFrom_store m 0 a.toNat v (Nat.zero_le _) a.isLt h

/-- The memory of the reset state is canonical. -/
theorem Memory.wf_reset : Memory.wf State.reset.mem = true := rfl

end Sys2Proof.Machine
end

