-- ==== Sys2Proof/Laws/State.lean ====
section
/-! SUPPORT. What each update of the state does to each field, one lemma per field per update, and what a read of a
register, a pair or a byte of memory gives after an update that does not concern it. -/

namespace Sys2Proof.Machine

variable (s : State)

/-! ### `setReg` -/

@[simp] theorem State.setReg_regs (r : Reg) (v : Byte) : (s.setReg r v).regs = s.regs.set r v := rfl
@[simp] theorem State.setReg_sp (r : Reg) (v : Byte) : (s.setReg r v).sp = s.sp := rfl
@[simp] theorem State.setReg_pc (r : Reg) (v : Byte) : (s.setReg r v).pc = s.pc := rfl
@[simp] theorem State.setReg_flags (r : Reg) (v : Byte) : (s.setReg r v).flags = s.flags := rfl
@[simp] theorem State.setReg_ie (r : Reg) (v : Byte) : (s.setReg r v).ie = s.ie := rfl
@[simp] theorem State.setReg_irqp (r : Reg) (v : Byte) : (s.setReg r v).irqp = s.irqp := rfl
@[simp] theorem State.setReg_run (r : Reg) (v : Byte) : (s.setReg r v).run = s.run := rfl
@[simp] theorem State.setReg_faultReason (r : Reg) (v : Byte) : (s.setReg r v).faultReason = s.faultReason := rfl
@[simp] theorem State.setReg_mem (r : Reg) (v : Byte) : (s.setReg r v).mem = s.mem := rfl
@[simp] theorem State.setReg_ports (r : Reg) (v : Byte) : (s.setReg r v).ports = s.ports := rfl
@[simp] theorem State.setReg_readByte (r : Reg) (v : Byte) (x : Word) : (s.setReg r v).readByte x = s.readByte x := rfl

/-! ### `setSp` -/

@[simp] theorem State.setSp_regs (w : Word) : (s.setSp w).regs = s.regs := rfl
@[simp] theorem State.setSp_sp (w : Word) : (s.setSp w).sp = w := rfl
@[simp] theorem State.setSp_pc (w : Word) : (s.setSp w).pc = s.pc := rfl
@[simp] theorem State.setSp_flags (w : Word) : (s.setSp w).flags = s.flags := rfl
@[simp] theorem State.setSp_ie (w : Word) : (s.setSp w).ie = s.ie := rfl
@[simp] theorem State.setSp_irqp (w : Word) : (s.setSp w).irqp = s.irqp := rfl
@[simp] theorem State.setSp_run (w : Word) : (s.setSp w).run = s.run := rfl
@[simp] theorem State.setSp_faultReason (w : Word) : (s.setSp w).faultReason = s.faultReason := rfl
@[simp] theorem State.setSp_mem (w : Word) : (s.setSp w).mem = s.mem := rfl
@[simp] theorem State.setSp_ports (w : Word) : (s.setSp w).ports = s.ports := rfl
@[simp] theorem State.setSp_reg (w : Word) (q : Reg) : (s.setSp w).reg q = s.reg q := rfl
@[simp] theorem State.setSp_pair_bc (w : Word) : (s.setSp w).pair .bc = s.pair .bc := rfl
@[simp] theorem State.setSp_pair_de (w : Word) : (s.setSp w).pair .de = s.pair .de := rfl
@[simp] theorem State.setSp_pair_hl (w : Word) : (s.setSp w).pair .hl = s.pair .hl := rfl
@[simp] theorem State.setSp_readByte (w : Word) (x : Word) : (s.setSp w).readByte x = s.readByte x := rfl

/-! ### `setPc` -/

@[simp] theorem State.setPc_regs (w : Word) : (s.setPc w).regs = s.regs := rfl
@[simp] theorem State.setPc_sp (w : Word) : (s.setPc w).sp = s.sp := rfl
@[simp] theorem State.setPc_pc (w : Word) : (s.setPc w).pc = w := rfl
@[simp] theorem State.setPc_flags (w : Word) : (s.setPc w).flags = s.flags := rfl
@[simp] theorem State.setPc_ie (w : Word) : (s.setPc w).ie = s.ie := rfl
@[simp] theorem State.setPc_irqp (w : Word) : (s.setPc w).irqp = s.irqp := rfl
@[simp] theorem State.setPc_run (w : Word) : (s.setPc w).run = s.run := rfl
@[simp] theorem State.setPc_faultReason (w : Word) : (s.setPc w).faultReason = s.faultReason := rfl
@[simp] theorem State.setPc_mem (w : Word) : (s.setPc w).mem = s.mem := rfl
@[simp] theorem State.setPc_ports (w : Word) : (s.setPc w).ports = s.ports := rfl
@[simp] theorem State.setPc_reg (w : Word) (q : Reg) : (s.setPc w).reg q = s.reg q := rfl
@[simp] theorem State.setPc_pair_bc (w : Word) : (s.setPc w).pair .bc = s.pair .bc := rfl
@[simp] theorem State.setPc_pair_de (w : Word) : (s.setPc w).pair .de = s.pair .de := rfl
@[simp] theorem State.setPc_pair_hl (w : Word) : (s.setPc w).pair .hl = s.pair .hl := rfl
@[simp] theorem State.setPc_readByte (w : Word) (x : Word) : (s.setPc w).readByte x = s.readByte x := rfl

/-! ### `setFlags` -/

@[simp] theorem State.setFlags_regs (f : Flags) : (s.setFlags f).regs = s.regs := rfl
@[simp] theorem State.setFlags_sp (f : Flags) : (s.setFlags f).sp = s.sp := rfl
@[simp] theorem State.setFlags_pc (f : Flags) : (s.setFlags f).pc = s.pc := rfl
@[simp] theorem State.setFlags_flags (f : Flags) : (s.setFlags f).flags = f := rfl
@[simp] theorem State.setFlags_ie (f : Flags) : (s.setFlags f).ie = s.ie := rfl
@[simp] theorem State.setFlags_irqp (f : Flags) : (s.setFlags f).irqp = s.irqp := rfl
@[simp] theorem State.setFlags_run (f : Flags) : (s.setFlags f).run = s.run := rfl
@[simp] theorem State.setFlags_faultReason (f : Flags) : (s.setFlags f).faultReason = s.faultReason := rfl
@[simp] theorem State.setFlags_mem (f : Flags) : (s.setFlags f).mem = s.mem := rfl
@[simp] theorem State.setFlags_ports (f : Flags) : (s.setFlags f).ports = s.ports := rfl
@[simp] theorem State.setFlags_reg (f : Flags) (q : Reg) : (s.setFlags f).reg q = s.reg q := rfl
@[simp] theorem State.setFlags_pair_bc (f : Flags) : (s.setFlags f).pair .bc = s.pair .bc := rfl
@[simp] theorem State.setFlags_pair_de (f : Flags) : (s.setFlags f).pair .de = s.pair .de := rfl
@[simp] theorem State.setFlags_pair_hl (f : Flags) : (s.setFlags f).pair .hl = s.pair .hl := rfl
@[simp] theorem State.setFlags_readByte (f : Flags) (x : Word) : (s.setFlags f).readByte x = s.readByte x := rfl

/-! ### `setCarry` -/

@[simp] theorem State.setCarry_regs (b : Bool) : (s.setCarry b).regs = s.regs := rfl
@[simp] theorem State.setCarry_sp (b : Bool) : (s.setCarry b).sp = s.sp := rfl
@[simp] theorem State.setCarry_pc (b : Bool) : (s.setCarry b).pc = s.pc := rfl
@[simp] theorem State.setCarry_flags (b : Bool) : (s.setCarry b).flags = { s.flags with c := b } := rfl
@[simp] theorem State.setCarry_ie (b : Bool) : (s.setCarry b).ie = s.ie := rfl
@[simp] theorem State.setCarry_irqp (b : Bool) : (s.setCarry b).irqp = s.irqp := rfl
@[simp] theorem State.setCarry_run (b : Bool) : (s.setCarry b).run = s.run := rfl
@[simp] theorem State.setCarry_faultReason (b : Bool) : (s.setCarry b).faultReason = s.faultReason := rfl
@[simp] theorem State.setCarry_mem (b : Bool) : (s.setCarry b).mem = s.mem := rfl
@[simp] theorem State.setCarry_ports (b : Bool) : (s.setCarry b).ports = s.ports := rfl
@[simp] theorem State.setCarry_reg (b : Bool) (q : Reg) : (s.setCarry b).reg q = s.reg q := rfl
@[simp] theorem State.setCarry_pair_bc (b : Bool) : (s.setCarry b).pair .bc = s.pair .bc := rfl
@[simp] theorem State.setCarry_pair_de (b : Bool) : (s.setCarry b).pair .de = s.pair .de := rfl
@[simp] theorem State.setCarry_pair_hl (b : Bool) : (s.setCarry b).pair .hl = s.pair .hl := rfl
@[simp] theorem State.setCarry_readByte (b : Bool) (x : Word) : (s.setCarry b).readByte x = s.readByte x := rfl

/-! ### `setIe` -/

@[simp] theorem State.setIe_regs (b : Bool) : (s.setIe b).regs = s.regs := rfl
@[simp] theorem State.setIe_sp (b : Bool) : (s.setIe b).sp = s.sp := rfl
@[simp] theorem State.setIe_pc (b : Bool) : (s.setIe b).pc = s.pc := rfl
@[simp] theorem State.setIe_flags (b : Bool) : (s.setIe b).flags = s.flags := rfl
@[simp] theorem State.setIe_ie (b : Bool) : (s.setIe b).ie = b := rfl
@[simp] theorem State.setIe_irqp (b : Bool) : (s.setIe b).irqp = s.irqp := rfl
@[simp] theorem State.setIe_run (b : Bool) : (s.setIe b).run = s.run := rfl
@[simp] theorem State.setIe_faultReason (b : Bool) : (s.setIe b).faultReason = s.faultReason := rfl
@[simp] theorem State.setIe_mem (b : Bool) : (s.setIe b).mem = s.mem := rfl
@[simp] theorem State.setIe_ports (b : Bool) : (s.setIe b).ports = s.ports := rfl
@[simp] theorem State.setIe_reg (b : Bool) (q : Reg) : (s.setIe b).reg q = s.reg q := rfl
@[simp] theorem State.setIe_pair_bc (b : Bool) : (s.setIe b).pair .bc = s.pair .bc := rfl
@[simp] theorem State.setIe_pair_de (b : Bool) : (s.setIe b).pair .de = s.pair .de := rfl
@[simp] theorem State.setIe_pair_hl (b : Bool) : (s.setIe b).pair .hl = s.pair .hl := rfl
@[simp] theorem State.setIe_readByte (b : Bool) (x : Word) : (s.setIe b).readByte x = s.readByte x := rfl

/-! ### `setIrqp` -/

@[simp] theorem State.setIrqp_regs (b : Bool) : (s.setIrqp b).regs = s.regs := rfl
@[simp] theorem State.setIrqp_sp (b : Bool) : (s.setIrqp b).sp = s.sp := rfl
@[simp] theorem State.setIrqp_pc (b : Bool) : (s.setIrqp b).pc = s.pc := rfl
@[simp] theorem State.setIrqp_flags (b : Bool) : (s.setIrqp b).flags = s.flags := rfl
@[simp] theorem State.setIrqp_ie (b : Bool) : (s.setIrqp b).ie = s.ie := rfl
@[simp] theorem State.setIrqp_irqp (b : Bool) : (s.setIrqp b).irqp = b := rfl
@[simp] theorem State.setIrqp_run (b : Bool) : (s.setIrqp b).run = s.run := rfl
@[simp] theorem State.setIrqp_faultReason (b : Bool) : (s.setIrqp b).faultReason = s.faultReason := rfl
@[simp] theorem State.setIrqp_mem (b : Bool) : (s.setIrqp b).mem = s.mem := rfl
@[simp] theorem State.setIrqp_ports (b : Bool) : (s.setIrqp b).ports = s.ports := rfl
@[simp] theorem State.setIrqp_reg (b : Bool) (q : Reg) : (s.setIrqp b).reg q = s.reg q := rfl
@[simp] theorem State.setIrqp_pair_bc (b : Bool) : (s.setIrqp b).pair .bc = s.pair .bc := rfl
@[simp] theorem State.setIrqp_pair_de (b : Bool) : (s.setIrqp b).pair .de = s.pair .de := rfl
@[simp] theorem State.setIrqp_pair_hl (b : Bool) : (s.setIrqp b).pair .hl = s.pair .hl := rfl
@[simp] theorem State.setIrqp_readByte (b : Bool) (x : Word) : (s.setIrqp b).readByte x = s.readByte x := rfl

/-! ### `setRun` -/

@[simp] theorem State.setRun_regs (r : RunState) : (s.setRun r).regs = s.regs := rfl
@[simp] theorem State.setRun_sp (r : RunState) : (s.setRun r).sp = s.sp := rfl
@[simp] theorem State.setRun_pc (r : RunState) : (s.setRun r).pc = s.pc := rfl
@[simp] theorem State.setRun_flags (r : RunState) : (s.setRun r).flags = s.flags := rfl
@[simp] theorem State.setRun_ie (r : RunState) : (s.setRun r).ie = s.ie := rfl
@[simp] theorem State.setRun_irqp (r : RunState) : (s.setRun r).irqp = s.irqp := rfl
@[simp] theorem State.setRun_run (r : RunState) : (s.setRun r).run = r := rfl
@[simp] theorem State.setRun_faultReason (r : RunState) : (s.setRun r).faultReason = s.faultReason := rfl
@[simp] theorem State.setRun_mem (r : RunState) : (s.setRun r).mem = s.mem := rfl
@[simp] theorem State.setRun_ports (r : RunState) : (s.setRun r).ports = s.ports := rfl
@[simp] theorem State.setRun_reg (r : RunState) (q : Reg) : (s.setRun r).reg q = s.reg q := rfl
@[simp] theorem State.setRun_pair_bc (r : RunState) : (s.setRun r).pair .bc = s.pair .bc := rfl
@[simp] theorem State.setRun_pair_de (r : RunState) : (s.setRun r).pair .de = s.pair .de := rfl
@[simp] theorem State.setRun_pair_hl (r : RunState) : (s.setRun r).pair .hl = s.pair .hl := rfl
@[simp] theorem State.setRun_readByte (r : RunState) (x : Word) : (s.setRun r).readByte x = s.readByte x := rfl

/-! ### `advance` -/

@[simp] theorem State.advance_regs (n : Nat) : (s.advance n).regs = s.regs := rfl
@[simp] theorem State.advance_sp (n : Nat) : (s.advance n).sp = s.sp := rfl
@[simp] theorem State.advance_pc (n : Nat) : (s.advance n).pc = s.npc n := rfl
@[simp] theorem State.advance_flags (n : Nat) : (s.advance n).flags = s.flags := rfl
@[simp] theorem State.advance_ie (n : Nat) : (s.advance n).ie = s.ie := rfl
@[simp] theorem State.advance_irqp (n : Nat) : (s.advance n).irqp = s.irqp := rfl
@[simp] theorem State.advance_run (n : Nat) : (s.advance n).run = s.run := rfl
@[simp] theorem State.advance_faultReason (n : Nat) : (s.advance n).faultReason = s.faultReason := rfl
@[simp] theorem State.advance_mem (n : Nat) : (s.advance n).mem = s.mem := rfl
@[simp] theorem State.advance_ports (n : Nat) : (s.advance n).ports = s.ports := rfl
@[simp] theorem State.advance_reg (n : Nat) (q : Reg) : (s.advance n).reg q = s.reg q := rfl
@[simp] theorem State.advance_pair_bc (n : Nat) : (s.advance n).pair .bc = s.pair .bc := rfl
@[simp] theorem State.advance_pair_de (n : Nat) : (s.advance n).pair .de = s.pair .de := rfl
@[simp] theorem State.advance_pair_hl (n : Nat) : (s.advance n).pair .hl = s.pair .hl := rfl
@[simp] theorem State.advance_readByte (n : Nat) (x : Word) : (s.advance n).readByte x = s.readByte x := rfl

/-! ### `writeByte` -/

@[simp] theorem State.writeByte_regs (a : Word) (v : Byte) : (s.writeByte a v).regs = s.regs := rfl
@[simp] theorem State.writeByte_sp (a : Word) (v : Byte) : (s.writeByte a v).sp = s.sp := rfl
@[simp] theorem State.writeByte_pc (a : Word) (v : Byte) : (s.writeByte a v).pc = s.pc := rfl
@[simp] theorem State.writeByte_flags (a : Word) (v : Byte) : (s.writeByte a v).flags = s.flags := rfl
@[simp] theorem State.writeByte_ie (a : Word) (v : Byte) : (s.writeByte a v).ie = s.ie := rfl
@[simp] theorem State.writeByte_irqp (a : Word) (v : Byte) : (s.writeByte a v).irqp = s.irqp := rfl
@[simp] theorem State.writeByte_run (a : Word) (v : Byte) : (s.writeByte a v).run = s.run := rfl
@[simp] theorem State.writeByte_faultReason (a : Word) (v : Byte) : (s.writeByte a v).faultReason = s.faultReason := rfl
@[simp] theorem State.writeByte_mem (a : Word) (v : Byte) : (s.writeByte a v).mem = Memory.write s.mem a v := rfl
@[simp] theorem State.writeByte_ports (a : Word) (v : Byte) : (s.writeByte a v).ports = s.ports := rfl
@[simp] theorem State.writeByte_reg (a : Word) (v : Byte) (q : Reg) : (s.writeByte a v).reg q = s.reg q := rfl
@[simp] theorem State.writeByte_pair_bc (a : Word) (v : Byte) : (s.writeByte a v).pair .bc = s.pair .bc := rfl
@[simp] theorem State.writeByte_pair_de (a : Word) (v : Byte) : (s.writeByte a v).pair .de = s.pair .de := rfl
@[simp] theorem State.writeByte_pair_hl (a : Word) (v : Byte) : (s.writeByte a v).pair .hl = s.pair .hl := rfl

/-! ### `portOut` -/

@[simp] theorem State.portOut_regs (p v : Byte) : (s.portOut p v).regs = s.regs := rfl
@[simp] theorem State.portOut_sp (p v : Byte) : (s.portOut p v).sp = s.sp := rfl
@[simp] theorem State.portOut_pc (p v : Byte) : (s.portOut p v).pc = s.pc := rfl
@[simp] theorem State.portOut_flags (p v : Byte) : (s.portOut p v).flags = s.flags := rfl
@[simp] theorem State.portOut_ie (p v : Byte) : (s.portOut p v).ie = s.ie := rfl
@[simp] theorem State.portOut_irqp (p v : Byte) : (s.portOut p v).irqp = s.irqp := rfl
@[simp] theorem State.portOut_run (p v : Byte) : (s.portOut p v).run = s.run := rfl
@[simp] theorem State.portOut_faultReason (p v : Byte) : (s.portOut p v).faultReason = s.faultReason := rfl
@[simp] theorem State.portOut_mem (p v : Byte) : (s.portOut p v).mem = s.mem := rfl
@[simp] theorem State.portOut_ports (p v : Byte) : (s.portOut p v).ports = { s.ports with written := s.ports.written ++ [(p, v)] } := rfl
@[simp] theorem State.portOut_reg (p v : Byte) (q : Reg) : (s.portOut p v).reg q = s.reg q := rfl
@[simp] theorem State.portOut_pair_bc (p v : Byte) : (s.portOut p v).pair .bc = s.pair .bc := rfl
@[simp] theorem State.portOut_pair_de (p v : Byte) : (s.portOut p v).pair .de = s.pair .de := rfl
@[simp] theorem State.portOut_pair_hl (p v : Byte) : (s.portOut p v).pair .hl = s.pair .hl := rfl
@[simp] theorem State.portOut_readByte (p v : Byte) (x : Word) : (s.portOut p v).readByte x = s.readByte x := rfl

/-! ### `raiseFault` -/

@[simp] theorem State.raiseFault_regs (why : FaultReason) : (s.raiseFault why).regs = s.regs := rfl
@[simp] theorem State.raiseFault_sp (why : FaultReason) : (s.raiseFault why).sp = s.sp := rfl
@[simp] theorem State.raiseFault_pc (why : FaultReason) : (s.raiseFault why).pc = s.pc := rfl
@[simp] theorem State.raiseFault_flags (why : FaultReason) : (s.raiseFault why).flags = s.flags := rfl
@[simp] theorem State.raiseFault_ie (why : FaultReason) : (s.raiseFault why).ie = s.ie := rfl
@[simp] theorem State.raiseFault_irqp (why : FaultReason) : (s.raiseFault why).irqp = s.irqp := rfl
@[simp] theorem State.raiseFault_run (why : FaultReason) : (s.raiseFault why).run = .faulted := rfl
@[simp] theorem State.raiseFault_faultReason (why : FaultReason) : (s.raiseFault why).faultReason = why := rfl
@[simp] theorem State.raiseFault_mem (why : FaultReason) : (s.raiseFault why).mem = s.mem := rfl
@[simp] theorem State.raiseFault_ports (why : FaultReason) : (s.raiseFault why).ports = s.ports := rfl
@[simp] theorem State.raiseFault_reg (why : FaultReason) (q : Reg) : (s.raiseFault why).reg q = s.reg q := rfl
@[simp] theorem State.raiseFault_pair_bc (why : FaultReason) : (s.raiseFault why).pair .bc = s.pair .bc := rfl
@[simp] theorem State.raiseFault_pair_de (why : FaultReason) : (s.raiseFault why).pair .de = s.pair .de := rfl
@[simp] theorem State.raiseFault_pair_hl (why : FaultReason) : (s.raiseFault why).pair .hl = s.pair .hl := rfl
@[simp] theorem State.raiseFault_readByte (why : FaultReason) (x : Word) : (s.raiseFault why).readByte x = s.readByte x := rfl

/-! ### `drop8` -/

@[simp] theorem State.drop8_regs : (s.drop8).regs = s.regs := rfl
@[simp] theorem State.drop8_sp : (s.drop8).sp = s.sp + 1 := rfl
@[simp] theorem State.drop8_pc : (s.drop8).pc = s.pc := rfl
@[simp] theorem State.drop8_flags : (s.drop8).flags = s.flags := rfl
@[simp] theorem State.drop8_ie : (s.drop8).ie = s.ie := rfl
@[simp] theorem State.drop8_irqp : (s.drop8).irqp = s.irqp := rfl
@[simp] theorem State.drop8_run : (s.drop8).run = s.run := rfl
@[simp] theorem State.drop8_faultReason : (s.drop8).faultReason = s.faultReason := rfl
@[simp] theorem State.drop8_mem : (s.drop8).mem = s.mem := rfl
@[simp] theorem State.drop8_ports : (s.drop8).ports = s.ports := rfl
@[simp] theorem State.drop8_reg (q : Reg) : (s.drop8).reg q = s.reg q := rfl
@[simp] theorem State.drop8_pair_bc : (s.drop8).pair .bc = s.pair .bc := rfl
@[simp] theorem State.drop8_pair_de : (s.drop8).pair .de = s.pair .de := rfl
@[simp] theorem State.drop8_pair_hl : (s.drop8).pair .hl = s.pair .hl := rfl
@[simp] theorem State.drop8_readByte (x : Word) : (s.drop8).readByte x = s.readByte x := rfl

/-! ### `drop16` -/

@[simp] theorem State.drop16_regs : (s.drop16).regs = s.regs := rfl
@[simp] theorem State.drop16_sp : (s.drop16).sp = s.sp + 1 + 1 := rfl
@[simp] theorem State.drop16_pc : (s.drop16).pc = s.pc := rfl
@[simp] theorem State.drop16_flags : (s.drop16).flags = s.flags := rfl
@[simp] theorem State.drop16_ie : (s.drop16).ie = s.ie := rfl
@[simp] theorem State.drop16_irqp : (s.drop16).irqp = s.irqp := rfl
@[simp] theorem State.drop16_run : (s.drop16).run = s.run := rfl
@[simp] theorem State.drop16_faultReason : (s.drop16).faultReason = s.faultReason := rfl
@[simp] theorem State.drop16_mem : (s.drop16).mem = s.mem := rfl
@[simp] theorem State.drop16_ports : (s.drop16).ports = s.ports := rfl
@[simp] theorem State.drop16_reg (q : Reg) : (s.drop16).reg q = s.reg q := rfl
@[simp] theorem State.drop16_pair_bc : (s.drop16).pair .bc = s.pair .bc := rfl
@[simp] theorem State.drop16_pair_de : (s.drop16).pair .de = s.pair .de := rfl
@[simp] theorem State.drop16_pair_hl : (s.drop16).pair .hl = s.pair .hl := rfl
@[simp] theorem State.drop16_readByte (x : Word) : (s.drop16).readByte x = s.readByte x := rfl

/-! ### `push8` -/

@[simp] theorem State.push8_regs (v : Byte) : (s.push8 v).regs = s.regs := rfl
@[simp] theorem State.push8_sp (v : Byte) : (s.push8 v).sp = s.sp - 1 := rfl
@[simp] theorem State.push8_pc (v : Byte) : (s.push8 v).pc = s.pc := rfl
@[simp] theorem State.push8_flags (v : Byte) : (s.push8 v).flags = s.flags := rfl
@[simp] theorem State.push8_ie (v : Byte) : (s.push8 v).ie = s.ie := rfl
@[simp] theorem State.push8_irqp (v : Byte) : (s.push8 v).irqp = s.irqp := rfl
@[simp] theorem State.push8_run (v : Byte) : (s.push8 v).run = s.run := rfl
@[simp] theorem State.push8_faultReason (v : Byte) : (s.push8 v).faultReason = s.faultReason := rfl
@[simp] theorem State.push8_mem (v : Byte) : (s.push8 v).mem = Memory.write s.mem (s.sp - 1) v := rfl
@[simp] theorem State.push8_ports (v : Byte) : (s.push8 v).ports = s.ports := rfl
@[simp] theorem State.push8_reg (v : Byte) (q : Reg) : (s.push8 v).reg q = s.reg q := rfl
@[simp] theorem State.push8_pair_bc (v : Byte) : (s.push8 v).pair .bc = s.pair .bc := rfl
@[simp] theorem State.push8_pair_de (v : Byte) : (s.push8 v).pair .de = s.pair .de := rfl
@[simp] theorem State.push8_pair_hl (v : Byte) : (s.push8 v).pair .hl = s.pair .hl := rfl

/-! ### `countRead` -/

@[simp] theorem State.countRead_regs : s.countRead.regs = s.regs := by
  unfold State.countRead; split <;> rfl
@[simp] theorem State.countRead_sp : s.countRead.sp = s.sp := by
  unfold State.countRead; split <;> rfl
@[simp] theorem State.countRead_pc : s.countRead.pc = s.pc := by
  unfold State.countRead; split <;> rfl
@[simp] theorem State.countRead_flags : s.countRead.flags = s.flags := by
  unfold State.countRead; split <;> rfl
@[simp] theorem State.countRead_ie : s.countRead.ie = s.ie := by
  unfold State.countRead; split <;> rfl
@[simp] theorem State.countRead_irqp : s.countRead.irqp = s.irqp := by
  unfold State.countRead; split <;> rfl
@[simp] theorem State.countRead_run : s.countRead.run = s.run := by
  unfold State.countRead; split <;> rfl
@[simp] theorem State.countRead_faultReason : s.countRead.faultReason = s.faultReason := by
  unfold State.countRead; split <;> rfl
@[simp] theorem State.countRead_mem : s.countRead.mem = s.mem := by
  unfold State.countRead; split <;> rfl
@[simp] theorem State.countRead_reg (q : Reg) : s.countRead.reg q = s.reg q := by
  unfold State.countRead; split <;> rfl
@[simp] theorem State.countRead_readByte (x : Word) : s.countRead.readByte x = s.readByte x := by
  unfold State.countRead; split <;> rfl

/-! ### `setPair` -/

@[simp] theorem State.setPair_pc (p : Pair) (v : Word) : (s.setPair p v).pc = s.pc := by
  cases p <;> rfl
@[simp] theorem State.setPair_flags (p : Pair) (v : Word) : (s.setPair p v).flags = s.flags := by
  cases p <;> rfl
@[simp] theorem State.setPair_ie (p : Pair) (v : Word) : (s.setPair p v).ie = s.ie := by
  cases p <;> rfl
@[simp] theorem State.setPair_irqp (p : Pair) (v : Word) : (s.setPair p v).irqp = s.irqp := by
  cases p <;> rfl
@[simp] theorem State.setPair_run (p : Pair) (v : Word) : (s.setPair p v).run = s.run := by
  cases p <;> rfl
@[simp] theorem State.setPair_faultReason (p : Pair) (v : Word) : (s.setPair p v).faultReason = s.faultReason := by
  cases p <;> rfl
@[simp] theorem State.setPair_mem (p : Pair) (v : Word) : (s.setPair p v).mem = s.mem := by
  cases p <;> rfl
@[simp] theorem State.setPair_ports (p : Pair) (v : Word) : (s.setPair p v).ports = s.ports := by
  cases p <;> rfl
@[simp] theorem State.setPair_readByte (p : Pair) (v : Word) (x : Word) : (s.setPair p v).readByte x = s.readByte x := by
  cases p <;> rfl

end Sys2Proof.Machine
end

