-- ==== Sys2Proof/Laws/Ops.lean ====
section
/-! SUPPORT. One spec lemma per named operation: what a read gives after it, and everything a shared shape of the
meanings can do. -/

namespace Sys2Proof

/-! ### Bytes of a word -/

@[simp] theorem hiByte_wordOf (hi lo : Byte) : hiByte (wordOf hi lo) = hi := by
  apply BitVec.eq_of_getLsbD_eq
  intro i hlt
  simp only [hiByte, wordOf, BitVec.getLsbD_append, BitVec.getLsbD_extractLsb']
  simp [hlt]

@[simp] theorem loByte_wordOf (hi lo : Byte) : loByte (wordOf hi lo) = lo := by
  apply BitVec.eq_of_getLsbD_eq
  intro i hlt
  simp only [loByte, wordOf, BitVec.getLsbD_append, BitVec.getLsbD_extractLsb']
  simp [hlt]

@[simp] theorem wordOf_hiByte_loByte (w : Word) : wordOf (hiByte w) (loByte w) = w := by
  apply BitVec.eq_of_getLsbD_eq
  intro i hlt
  simp only [wordOf, hiByte, loByte, BitVec.getLsbD_append, BitVec.getLsbD_extractLsb']
  split
  · next h => simp [h]
  · have : i - 8 < 8 := by omega
    simp [this]; congr 1; omega

/-- A word as a number (R9, R89). -/
theorem toNat_wordOf (hi lo : Byte) : (wordOf hi lo).toNat = hi.toNat * 256 + lo.toNat := by
  have h : lo.toNat < 2 ^ 8 := lo.isLt
  rw [wordOf, BitVec.toNat_append, Nat.shiftLeft_eq, ← Nat.shiftLeft_eq, ← Nat.shiftLeft_add_eq_or_of_lt h,
    Nat.shiftLeft_eq]

end Sys2Proof

namespace Sys2Proof.Machine

/-! ### Registers and pairs -/

theorem Regs.get_set (x : Regs) (r q : Reg) (v : Byte) : (x.set r v).get q = if q = r then v else x.get q := by
  cases r <;> cases q <;> rfl

/-- A register write changes that register and no other (R21). -/
@[simp] theorem State.setReg_reg (s : State) (r : Reg) (v : Byte) (q : Reg) :
    (s.setReg r v).reg q = if q = r then v else s.reg q :=
  Regs.get_set s.regs r q v

theorem State.reg_eq (s : State) (r : Reg) : s.regs.get r = s.reg r := rfl

@[simp] theorem State.pair_sp (s : State) : s.pair .sp = s.sp := rfl

/-- A pair reads what was written to it (R23). -/
@[simp] theorem State.setPair_pair (s : State) (p : Pair) (v : Word) : (s.setPair p v).pair p = v := by
  cases p <;> simp [State.pair, State.setPair, pairHigh, pairLow]

/-- A write of a pair of general registers changes its two registers and no other (R22, R23). -/
theorem State.setPair_reg (s : State) (p : Pair) (v : Word) (q : Reg) (hp : p ≠ .sp) :
    (s.setPair p v).reg q = if q = pairHigh p then hiByte v else if q = pairLow p then loByte v else s.reg q := by
  cases p <;> first | exact absurd rfl hp | (cases q <;> rfl)

@[simp] theorem State.setPair_sp_reg (s : State) (v : Word) (q : Reg) : (s.setPair .sp v).reg q = s.reg q := rfl

@[simp] theorem State.setPair_sp_sp (s : State) (v : Word) : (s.setPair .sp v).sp = v := rfl

theorem State.setPair_sp_of_ne (s : State) (p : Pair) (v : Word) (hp : p ≠ .sp) : (s.setPair p v).sp = s.sp := by
  cases p <;> first | exact absurd rfl hp | rfl

/-! ### Memory and stack -/

/-- A byte read after a byte written (R51, R52). -/
@[simp] theorem State.writeByte_readByte (s : State) (a : Word) (v : Byte) (b : Word) :
    (s.writeByte a v).readByte b = if b = a then v else s.readByte b :=
  Memory.read_write s.mem a v b

/-- Memory after `push8` (R60). -/
@[simp] theorem State.push8_readByte (s : State) (v : Byte) (b : Word) :
    (s.push8 v).readByte b = if b = s.sp - 1 then v else s.readByte b := by
  simp [State.push8]

@[simp] theorem State.push16_sp (s : State) (w : Word) : (s.push16 w).sp = s.sp - 1 - 1 := rfl
@[simp] theorem State.push16_regs (s : State) (w : Word) : (s.push16 w).regs = s.regs := rfl
@[simp] theorem State.push16_reg (s : State) (w : Word) (r : Reg) : (s.push16 w).reg r = s.reg r := rfl
@[simp] theorem State.push16_pc (s : State) (w : Word) : (s.push16 w).pc = s.pc := rfl
@[simp] theorem State.push16_flags (s : State) (w : Word) : (s.push16 w).flags = s.flags := rfl
@[simp] theorem State.push16_ie (s : State) (w : Word) : (s.push16 w).ie = s.ie := rfl
@[simp] theorem State.push16_irqp (s : State) (w : Word) : (s.push16 w).irqp = s.irqp := rfl
@[simp] theorem State.push16_run (s : State) (w : Word) : (s.push16 w).run = s.run := rfl
@[simp] theorem State.push16_faultReason (s : State) (w : Word) : (s.push16 w).faultReason = s.faultReason := rfl
@[simp] theorem State.push16_ports (s : State) (w : Word) : (s.push16 w).ports = s.ports := rfl
@[simp] theorem State.push16_mem (s : State) (w : Word) :
    (s.push16 w).mem = Memory.write (Memory.write s.mem (s.sp - 1) (hiByte w)) (s.sp - 1 - 1) (loByte w) := rfl

/-- Memory after `push16` (R62): the low byte at the new `SP`, the high byte above it. -/
@[simp] theorem State.push16_readByte (s : State) (w : Word) (b : Word) :
    (s.push16 w).readByte b =
      if b = s.sp - 1 - 1 then loByte w else if b = s.sp - 1 then hiByte w else s.readByte b := by
  simp [State.push16]

/-- `pop16` reads the low byte at `SP` and the high byte above it (R63). -/
theorem State.top16_eq (s : State) : s.top16 = wordOf (s.readByte (s.sp + 1)) (s.readByte s.sp) := rfl

/-- Popping what was pushed gives it back (R63). -/
@[simp] theorem State.push16_top16 (s : State) (w : Word) : (s.push16 w).top16 = w := by
  have h : s.sp - 1 - 1 + 1 = s.sp - 1 := by bv_omega
  have h' : s.sp - 1 ≠ s.sp - 1 - 1 := by bv_omega
  rw [State.top16_eq, State.push16_readByte, State.push16_readByte, State.push16_sp, h, if_neg h', if_pos rfl,
    if_pos rfl, wordOf_hiByte_loByte]

/-- Storing a list of bytes touches memory alone (R356). -/
theorem State.storeBytes_eq (s : State) (a : Word) (bytes : List Byte) :
    s.storeBytes a bytes = { s with mem := (s.storeBytes a bytes).mem } := by
  induction bytes generalizing s a with
  | nil => rfl
  | cons v rest ih => exact ih (s.writeByte a v) (a + 1)

/-- Storing a list of bytes keeps the canonical form. -/
theorem State.storeBytes_wf (s : State) (a : Word) (bytes : List Byte) (h : Memory.wf s.mem = true) :
    Memory.wf (s.storeBytes a bytes).mem = true := by
  induction bytes generalizing s a with
  | nil => exact h
  | cons v rest ih => exact ih (s.writeByte a v) (a + 1) (Memory.wf_write s.mem a v h)

theorem State.push8_wf (s : State) (v : Byte) (h : Memory.wf s.mem = true) : Memory.wf (s.push8 v).mem = true :=
  Memory.wf_write _ _ _ h

theorem State.push16_wf (s : State) (w : Word) (h : Memory.wf s.mem = true) : Memory.wf (s.push16 w).mem = true :=
  State.push8_wf _ _ (State.push8_wf _ _ h)

/-! ### Faults and the interrupt -/

/-- Interrupt entry (R319): everything it does, the vector read after the push. -/
theorem State.enterInterrupt_eq (s : State) :
    s.enterInterrupt =
      { s with ie := false, irqp := false, run := .running, sp := s.sp - 1 - 1, mem := (s.push16 s.pc).mem,
               pc := (s.push16 s.pc).vector } := rfl

/-- The interrupt check enters the interrupt or changes nothing (R318). -/
theorem State.checkInterrupt_cases (s : State) :
    (s.ie = true ∧ s.irqp = true ∧ s.checkInterrupt = s.enterInterrupt) ∨
    ((s.ie = false ∨ s.irqp = false) ∧ s.checkInterrupt = s) := by
  unfold State.checkInterrupt
  cases hi : s.ie <;> cases hq : s.irqp <;> simp

/-- The end of a step: nothing on a faulted core, else the interrupt check (R100). -/
theorem State.finishStep_cases (s : State) :
    (s.run = .faulted ∧ s.finishStep = s) ∨ (s.run ≠ .faulted ∧ s.finishStep = s.checkInterrupt) := by
  unfold State.finishStep
  cases h : s.run <;> simp

/-! ### The shared shapes of the meanings -/

theorem retire_next {len : Nat} {t u : State} (h : retire len t = .next u) : u = t.advance len := by
  simpa [retire] using h.symm

theorem loadReg_next {d : Reg} {m : MemOperand} {len : Nat} {s u : State} (h : loadReg d m len s = .next u) :
    u = (s.setReg d (s.readByte (m.address s))).advance len := retire_next h

theorem storeReg_next {r : Reg} {m : MemOperand} {len : Nat} {s u : State} (h : storeReg r m len s = .next u) :
    u = (s.writeByte (m.address s) (s.reg r)).advance len := retire_next h

theorem writeAlu_next {d : Reg} {res : AluResult} {len : Nat} {s u : State} (h : writeAlu d res len s = .next u) :
    u = ((s.setReg d res.value).setFlags res.flags).advance len := retire_next h

theorem compareAlu_next {res : AluResult} {len : Nat} {s u : State} (h : compareAlu res len s = .next u) :
    u = (s.setFlags res.flags).advance len := retire_next h

theorem writeAlu16_next {p : Pair} {r : Word} {len : Nat} {s u : State} (h : writeAlu16 p r len s = .next u) :
    u = ((s.setPair p r).setFlags (flags16 r s.flags)).advance len := retire_next h

theorem jumpIf_next {cond : Cond} {target : Word} {len : Nat} {s u : State} (h : jumpIf cond target len s = .next u) :
    u = s.setPc (if cond.holds s.flags then target else s.npc len) := by
  simpa [jumpIf] using h.symm

/-- A pair instruction either has its effect or, naming `SP`, takes the fault transition (R87). -/
theorem withRegisterPairs_next {ps : List Pair} {s u : State} {effect : Host.Outcome State Fault Refusal}
    (h : withRegisterPairs ps s effect = .next u) :
    (Pair.sp ∈ ps ∧ u = s.raiseFault .invalidOpcode) ∨ (Pair.sp ∉ ps ∧ effect = .next u) := by
  unfold withRegisterPairs at h
  split at h
  · next hm => exact .inl ⟨hm, by simpa using h.symm⟩
  · next hm => exact .inr ⟨hm, h⟩

end Sys2Proof.Machine
end

