-- ==== Sys2Proof/Laws/Decode.lean ====
section
/-! SUPPORT. The selector bytes: reading one back gives what it was made from, and a valid one is what its reading
makes. -/

namespace Sys2Proof

@[simp] theorem regOf_code (r : Reg) : regOf r.code = r := by cases r <;> rfl

@[simp] theorem pairOf_code (p : Pair) : pairOf p.code = p := by cases p <;> rfl

/-- R82, both ways. -/
theorem selReg_regSel (r : Reg) : selReg (regSel r) = some r := by cases r <;> decide

/-- R83. -/
theorem selReg2_reg2Sel (d r : Reg) : selReg2 (reg2Sel d r) = some (d, r) := by cases d <;> cases r <;> decide

/-- R84 for `LDI16`. -/
theorem selAnyPair_pairSel (p : Pair) : selAnyPair (pairSel p) = some p := by cases p <;> decide

/-- R84 where `SP` is not admitted. -/
theorem selPair_pairSel (p : Pair) : selPair (pairSel p) = if p.isRegisterPair then some p else none := by
  cases p <;> decide

/-- R85. -/
theorem selPair2_pair2Sel (pd ps : Pair) :
    selPair2 (pair2Sel pd ps) = if pd.isRegisterPair && ps.isRegisterPair then some (pd, ps) else none := by
  cases pd <;> cases ps <;> decide

/-- The opcode map is a table with no opcode twice (R90). -/
theorem opRows_no_duplicate : (opRows.map Prod.fst).Pairwise (· ≠ ·) := by decide

/-- 76 instructions (R90). -/
theorem opRows_length : opRows.length = 76 := rfl

end Sys2Proof
end

