-- ==== Sys2Proof/Laws/PerInstr.lean ====
section
/-! SUPPORT. Facts about every instruction as syntax, one lemma per constructor. -/

namespace Sys2Proof.Laws.OpcodeFixesLength

/-- The opcode byte of an instruction's encoding alone selects its row of the opcode map, and the row's length is
the encoding's (R80, R93). -/
def Statement (i : Instr) : Prop :=
  ∃ op rest sh, encode i = op :: rest ∧ opMap op = some sh ∧ sh.length = (encode i).length

end Sys2Proof.Laws.OpcodeFixesLength

theorem Sys2Proof.Laws.OpcodeFixesLength.nop : Statement .nop :=
  ⟨_, _, _, rfl, rfl, rfl⟩

theorem Sys2Proof.Laws.OpcodeFixesLength.hlt : Statement .hlt :=
  ⟨_, _, _, rfl, rfl, rfl⟩

theorem Sys2Proof.Laws.OpcodeFixesLength.ei : Statement .ei :=
  ⟨_, _, _, rfl, rfl, rfl⟩

theorem Sys2Proof.Laws.OpcodeFixesLength.di : Statement .di :=
  ⟨_, _, _, rfl, rfl, rfl⟩

theorem Sys2Proof.Laws.OpcodeFixesLength.scf : Statement .scf :=
  ⟨_, _, _, rfl, rfl, rfl⟩

theorem Sys2Proof.Laws.OpcodeFixesLength.ccf : Statement .ccf :=
  ⟨_, _, _, rfl, rfl, rfl⟩

theorem Sys2Proof.Laws.OpcodeFixesLength.cmf : Statement .cmf :=
  ⟨_, _, _, rfl, rfl, rfl⟩

theorem Sys2Proof.Laws.OpcodeFixesLength.ret : Statement .ret :=
  ⟨_, _, _, rfl, rfl, rfl⟩

theorem Sys2Proof.Laws.OpcodeFixesLength.reti : Statement .reti :=
  ⟨_, _, _, rfl, rfl, rfl⟩

theorem Sys2Proof.Laws.OpcodeFixesLength.pushf : Statement .pushf :=
  ⟨_, _, _, rfl, rfl, rfl⟩

theorem Sys2Proof.Laws.OpcodeFixesLength.popf : Statement .popf :=
  ⟨_, _, _, rfl, rfl, rfl⟩

theorem Sys2Proof.Laws.OpcodeFixesLength.jpHl : Statement .jpHl :=
  ⟨_, _, _, rfl, rfl, rfl⟩

theorem Sys2Proof.Laws.OpcodeFixesLength.mov (d r : Reg) : Statement (.mov d r) :=
  ⟨_, _, _, rfl, rfl, rfl⟩

theorem Sys2Proof.Laws.OpcodeFixesLength.ldi (d : Reg) (b : Byte) : Statement (.ldi d b) :=
  ⟨_, _, _, rfl, rfl, rfl⟩

theorem Sys2Proof.Laws.OpcodeFixesLength.ldAbs (d : Reg) (a : Word) : Statement (.ldAbs d a) :=
  ⟨_, _, _, rfl, rfl, rfl⟩

theorem Sys2Proof.Laws.OpcodeFixesLength.ldHl (d : Reg) : Statement (.ldHl d) :=
  ⟨_, _, _, rfl, rfl, rfl⟩

theorem Sys2Proof.Laws.OpcodeFixesLength.ldHlD (d : Reg) (b : Byte) : Statement (.ldHlD d b) :=
  ⟨_, _, _, rfl, rfl, rfl⟩

theorem Sys2Proof.Laws.OpcodeFixesLength.stAbs (d : Reg) (a : Word) : Statement (.stAbs d a) :=
  ⟨_, _, _, rfl, rfl, rfl⟩

theorem Sys2Proof.Laws.OpcodeFixesLength.stHl (d : Reg) : Statement (.stHl d) :=
  ⟨_, _, _, rfl, rfl, rfl⟩

theorem Sys2Proof.Laws.OpcodeFixesLength.stHlD (d : Reg) (b : Byte) : Statement (.stHlD d b) :=
  ⟨_, _, _, rfl, rfl, rfl⟩

theorem Sys2Proof.Laws.OpcodeFixesLength.ldz (d : Reg) (b : Byte) : Statement (.ldz d b) :=
  ⟨_, _, _, rfl, rfl, rfl⟩

theorem Sys2Proof.Laws.OpcodeFixesLength.stz (d : Reg) (b : Byte) : Statement (.stz d b) :=
  ⟨_, _, _, rfl, rfl, rfl⟩

theorem Sys2Proof.Laws.OpcodeFixesLength.ldi16 (p : Pair) (imm : Word) : Statement (.ldi16 p imm) :=
  ⟨_, _, _, rfl, rfl, rfl⟩

theorem Sys2Proof.Laws.OpcodeFixesLength.mov16 (pd ps : Pair) : Statement (.mov16 pd ps) :=
  ⟨_, _, _, rfl, rfl, rfl⟩

theorem Sys2Proof.Laws.OpcodeFixesLength.inPort (d : Reg) (b : Byte) : Statement (.inPort d b) :=
  ⟨_, _, _, rfl, rfl, rfl⟩

theorem Sys2Proof.Laws.OpcodeFixesLength.outPort (d : Reg) (b : Byte) : Statement (.outPort d b) :=
  ⟨_, _, _, rfl, rfl, rfl⟩

theorem Sys2Proof.Laws.OpcodeFixesLength.add (d r : Reg) : Statement (.add d r) :=
  ⟨_, _, _, rfl, rfl, rfl⟩

theorem Sys2Proof.Laws.OpcodeFixesLength.adc (d r : Reg) : Statement (.adc d r) :=
  ⟨_, _, _, rfl, rfl, rfl⟩

theorem Sys2Proof.Laws.OpcodeFixesLength.sub (d r : Reg) : Statement (.sub d r) :=
  ⟨_, _, _, rfl, rfl, rfl⟩

theorem Sys2Proof.Laws.OpcodeFixesLength.sbc (d r : Reg) : Statement (.sbc d r) :=
  ⟨_, _, _, rfl, rfl, rfl⟩

theorem Sys2Proof.Laws.OpcodeFixesLength.cmp (d r : Reg) : Statement (.cmp d r) :=
  ⟨_, _, _, rfl, rfl, rfl⟩

theorem Sys2Proof.Laws.OpcodeFixesLength.and (d r : Reg) : Statement (.and d r) :=
  ⟨_, _, _, rfl, rfl, rfl⟩

theorem Sys2Proof.Laws.OpcodeFixesLength.or (d r : Reg) : Statement (.or d r) :=
  ⟨_, _, _, rfl, rfl, rfl⟩

theorem Sys2Proof.Laws.OpcodeFixesLength.xor (d r : Reg) : Statement (.xor d r) :=
  ⟨_, _, _, rfl, rfl, rfl⟩

theorem Sys2Proof.Laws.OpcodeFixesLength.addi (d : Reg) (b : Byte) : Statement (.addi d b) :=
  ⟨_, _, _, rfl, rfl, rfl⟩

theorem Sys2Proof.Laws.OpcodeFixesLength.subi (d : Reg) (b : Byte) : Statement (.subi d b) :=
  ⟨_, _, _, rfl, rfl, rfl⟩

theorem Sys2Proof.Laws.OpcodeFixesLength.cmpi (d : Reg) (b : Byte) : Statement (.cmpi d b) :=
  ⟨_, _, _, rfl, rfl, rfl⟩

theorem Sys2Proof.Laws.OpcodeFixesLength.andi (d : Reg) (b : Byte) : Statement (.andi d b) :=
  ⟨_, _, _, rfl, rfl, rfl⟩

theorem Sys2Proof.Laws.OpcodeFixesLength.ori (d : Reg) (b : Byte) : Statement (.ori d b) :=
  ⟨_, _, _, rfl, rfl, rfl⟩

theorem Sys2Proof.Laws.OpcodeFixesLength.xori (d : Reg) (b : Byte) : Statement (.xori d b) :=
  ⟨_, _, _, rfl, rfl, rfl⟩

theorem Sys2Proof.Laws.OpcodeFixesLength.inc (d : Reg) : Statement (.inc d) :=
  ⟨_, _, _, rfl, rfl, rfl⟩

theorem Sys2Proof.Laws.OpcodeFixesLength.dec (d : Reg) : Statement (.dec d) :=
  ⟨_, _, _, rfl, rfl, rfl⟩

theorem Sys2Proof.Laws.OpcodeFixesLength.neg (d : Reg) : Statement (.neg d) :=
  ⟨_, _, _, rfl, rfl, rfl⟩

theorem Sys2Proof.Laws.OpcodeFixesLength.not (d : Reg) : Statement (.not d) :=
  ⟨_, _, _, rfl, rfl, rfl⟩

theorem Sys2Proof.Laws.OpcodeFixesLength.shl (d : Reg) : Statement (.shl d) :=
  ⟨_, _, _, rfl, rfl, rfl⟩

theorem Sys2Proof.Laws.OpcodeFixesLength.shr (d : Reg) : Statement (.shr d) :=
  ⟨_, _, _, rfl, rfl, rfl⟩

theorem Sys2Proof.Laws.OpcodeFixesLength.sar (d : Reg) : Statement (.sar d) :=
  ⟨_, _, _, rfl, rfl, rfl⟩

theorem Sys2Proof.Laws.OpcodeFixesLength.rol (d : Reg) : Statement (.rol d) :=
  ⟨_, _, _, rfl, rfl, rfl⟩

theorem Sys2Proof.Laws.OpcodeFixesLength.ror (d : Reg) : Statement (.ror d) :=
  ⟨_, _, _, rfl, rfl, rfl⟩

theorem Sys2Proof.Laws.OpcodeFixesLength.swap (d : Reg) : Statement (.swap d) :=
  ⟨_, _, _, rfl, rfl, rfl⟩

theorem Sys2Proof.Laws.OpcodeFixesLength.inc16 (p : Pair) : Statement (.inc16 p) :=
  ⟨_, _, _, rfl, rfl, rfl⟩

theorem Sys2Proof.Laws.OpcodeFixesLength.dec16 (p : Pair) : Statement (.dec16 p) :=
  ⟨_, _, _, rfl, rfl, rfl⟩

theorem Sys2Proof.Laws.OpcodeFixesLength.add16 (pd ps : Pair) : Statement (.add16 pd ps) :=
  ⟨_, _, _, rfl, rfl, rfl⟩

theorem Sys2Proof.Laws.OpcodeFixesLength.jmp (a : Word) : Statement (.jmp a) :=
  ⟨_, _, _, rfl, rfl, rfl⟩

theorem Sys2Proof.Laws.OpcodeFixesLength.jz (a : Word) : Statement (.jz a) :=
  ⟨_, _, _, rfl, rfl, rfl⟩

theorem Sys2Proof.Laws.OpcodeFixesLength.jnz (a : Word) : Statement (.jnz a) :=
  ⟨_, _, _, rfl, rfl, rfl⟩

theorem Sys2Proof.Laws.OpcodeFixesLength.jc (a : Word) : Statement (.jc a) :=
  ⟨_, _, _, rfl, rfl, rfl⟩

theorem Sys2Proof.Laws.OpcodeFixesLength.jnc (a : Word) : Statement (.jnc a) :=
  ⟨_, _, _, rfl, rfl, rfl⟩

theorem Sys2Proof.Laws.OpcodeFixesLength.js (a : Word) : Statement (.js a) :=
  ⟨_, _, _, rfl, rfl, rfl⟩

theorem Sys2Proof.Laws.OpcodeFixesLength.jns (a : Word) : Statement (.jns a) :=
  ⟨_, _, _, rfl, rfl, rfl⟩

theorem Sys2Proof.Laws.OpcodeFixesLength.jo (a : Word) : Statement (.jo a) :=
  ⟨_, _, _, rfl, rfl, rfl⟩

theorem Sys2Proof.Laws.OpcodeFixesLength.jno (a : Word) : Statement (.jno a) :=
  ⟨_, _, _, rfl, rfl, rfl⟩

theorem Sys2Proof.Laws.OpcodeFixesLength.jr (off : Byte) : Statement (.jr off) :=
  ⟨_, _, _, rfl, rfl, rfl⟩

theorem Sys2Proof.Laws.OpcodeFixesLength.jrz (off : Byte) : Statement (.jrz off) :=
  ⟨_, _, _, rfl, rfl, rfl⟩

theorem Sys2Proof.Laws.OpcodeFixesLength.jrnz (off : Byte) : Statement (.jrnz off) :=
  ⟨_, _, _, rfl, rfl, rfl⟩

theorem Sys2Proof.Laws.OpcodeFixesLength.jrc (off : Byte) : Statement (.jrc off) :=
  ⟨_, _, _, rfl, rfl, rfl⟩

theorem Sys2Proof.Laws.OpcodeFixesLength.jrnc (off : Byte) : Statement (.jrnc off) :=
  ⟨_, _, _, rfl, rfl, rfl⟩

theorem Sys2Proof.Laws.OpcodeFixesLength.jrs (off : Byte) : Statement (.jrs off) :=
  ⟨_, _, _, rfl, rfl, rfl⟩

theorem Sys2Proof.Laws.OpcodeFixesLength.jrns (off : Byte) : Statement (.jrns off) :=
  ⟨_, _, _, rfl, rfl, rfl⟩

theorem Sys2Proof.Laws.OpcodeFixesLength.jro (off : Byte) : Statement (.jro off) :=
  ⟨_, _, _, rfl, rfl, rfl⟩

theorem Sys2Proof.Laws.OpcodeFixesLength.jrno (off : Byte) : Statement (.jrno off) :=
  ⟨_, _, _, rfl, rfl, rfl⟩

theorem Sys2Proof.Laws.OpcodeFixesLength.call (a : Word) : Statement (.call a) :=
  ⟨_, _, _, rfl, rfl, rfl⟩

theorem Sys2Proof.Laws.OpcodeFixesLength.push (d : Reg) : Statement (.push d) :=
  ⟨_, _, _, rfl, rfl, rfl⟩

theorem Sys2Proof.Laws.OpcodeFixesLength.pop (d : Reg) : Statement (.pop d) :=
  ⟨_, _, _, rfl, rfl, rfl⟩

theorem Sys2Proof.Laws.OpcodeFixesLength.push16 (p : Pair) : Statement (.push16 p) :=
  ⟨_, _, _, rfl, rfl, rfl⟩

theorem Sys2Proof.Laws.OpcodeFixesLength.pop16 (p : Pair) : Statement (.pop16 p) :=
  ⟨_, _, _, rfl, rfl, rfl⟩
end

