-- ==== Sys2Proof/Tests/Slice0.lean ====
section
/-! SUPPORT. Tests. Every expected result comes from spec/: the encodings of 30_encoding.md R81 to R90 and of each
instruction's rule, and the vectors V<n> of 95_test_vectors.md. Then one witness per statement with hypotheses. -/

namespace Sys2Proof.Tests

-- One theorem after another: the kernel evaluations below, run at once, would each hold a thread of their own.
set_option Elab.async false

open Sys2Proof.Machine

/-! ### Well-formedness: what each check refuses (R84, R85) -/

theorem test_wellFormed_inc16_refuses_sp : (Instr.inc16 .sp).wellFormed = false := by decide
theorem test_wellFormed_dec16_refuses_sp : (Instr.dec16 .sp).wellFormed = false := by decide
theorem test_wellFormed_push16_refuses_sp : (Instr.push16 .sp).wellFormed = false := by decide
theorem test_wellFormed_pop16_refuses_sp : (Instr.pop16 .sp).wellFormed = false := by decide
theorem test_wellFormed_mov16_refuses_sp_destination : (Instr.mov16 .sp .bc).wellFormed = false := by decide
theorem test_wellFormed_mov16_refuses_sp_source : (Instr.mov16 .hl .sp).wellFormed = false := by decide
theorem test_wellFormed_add16_refuses_sp_destination : (Instr.add16 .sp .bc).wellFormed = false := by decide
theorem test_wellFormed_add16_refuses_sp_source : (Instr.add16 .hl .sp).wellFormed = false := by decide
theorem test_wellFormed_ldi16_admits_sp : (Instr.ldi16 .sp 0x8000).wellFormed = true := by decide

/-! ### Decoding: every constructor from a word written out from the spec's encoding -/

/-- What a complete instruction's bytes decode to, with nothing left over. -/
def decodesTo (bytes : List Byte) (i : Instr) : Bool := decide (decode bytes = .instr i [])

/-- R90, format `IMP`. -/
theorem test_decode_implied :
    decodesTo [0x00] .nop ∧ decodesTo [0x01] .hlt ∧ decodesTo [0x02] .ei ∧ decodesTo [0x03] .di ∧
    decodesTo [0x04] .scf ∧ decodesTo [0x05] .ccf ∧ decodesTo [0x06] .cmf ∧ decodesTo [0x07] .ret ∧
    decodesTo [0x08] .reti ∧ decodesTo [0x09] .pushf ∧ decodesTo [0x0A] .popf ∧ decodesTo [0x0B] .jpHl := by decide

/-- The examples of R121 to R136, bit by bit where a selector packs two fields. -/
theorem test_decode_data_movement :
    decodesTo [0x10, 0b00000011] (.mov .r0 .r3) ∧ decodesTo [0x10, 0b01110011] (.mov .r7 .r3) ∧
    decodesTo [0x11, 0x00, 0x03] (.ldi .r0 3) ∧ decodesTo [0x12, 0x02, 0x00, 0x05] (.ldAbs .r2 0x0500) ∧
    decodesTo [0x13, 0x00] (.ldHl .r0) ∧ decodesTo [0x14, 0x01, 0x03] (.ldHlD .r1 3) ∧
    decodesTo [0x15, 0x00, 0x00, 0x05] (.stAbs .r0 0x0500) ∧ decodesTo [0x16, 0x04] (.stHl .r4) ∧
    decodesTo [0x17, 0x00, 0x02] (.stHlD .r0 2) ∧ decodesTo [0x18, 0x06, 0x10] (.ldz .r6 0x10) ∧
    decodesTo [0x19, 0x07, 0x20] (.stz .r7 0x20) ∧ decodesTo [0x1A, 0x02, 0x00, 0x04] (.ldi16 .hl 0x0400) ∧
    decodesTo [0x1A, 0x03, 0xFE, 0x01] (.ldi16 .sp 0x01FE) ∧ decodesTo [0x1B, 0b00010010] (.mov16 .de .hl) ∧
    decodesTo [0x1C, 0x00, 0x10] (.inPort .r0 0x10) ∧ decodesTo [0x1D, 0x01, 0x01] (.outPort .r1 0x01) := by decide

/-- The examples of R160 to R173. -/
theorem test_decode_two_operand_alu :
    decodesTo [0x20, 0x01] (.add .r0 .r1) ∧ decodesTo [0x21, 0x01] (.adc .r0 .r1) ∧
    decodesTo [0x22, 0x01] (.sub .r0 .r1) ∧ decodesTo [0x23, 0b00100011] (.sbc .r2 .r3) ∧
    decodesTo [0x24, 0x01] (.cmp .r0 .r1) ∧ decodesTo [0x25, 0x01] (.and .r0 .r1) ∧
    decodesTo [0x26, 0x01] (.or .r0 .r1) ∧ decodesTo [0x27, 0b01000101] (.xor .r4 .r5) ∧
    decodesTo [0x28, 0x00, 0x01] (.addi .r0 1) ∧ decodesTo [0x29, 0x01, 0x01] (.subi .r1 1) ∧
    decodesTo [0x2A, 0x00, 0x0A] (.cmpi .r0 0x0A) ∧ decodesTo [0x2B, 0x00, 0x0F] (.andi .r0 0x0F) ∧
    decodesTo [0x2C, 0x00, 0x80] (.ori .r0 0x80) ∧ decodesTo [0x2D, 0x00, 0x0F] (.xori .r0 0x0F) := by decide

/-- R174 to R177, R201 to R206, R213 to R215. -/
theorem test_decode_one_operand_alu :
    decodesTo [0x30, 0x00] (.inc .r0) ∧ decodesTo [0x31, 0x02] (.dec .r2) ∧ decodesTo [0x32, 0x07] (.neg .r7) ∧
    decodesTo [0x33, 0x00] (.not .r0) ∧ decodesTo [0x34, 0x01] (.shl .r1) ∧ decodesTo [0x35, 0x02] (.shr .r2) ∧
    decodesTo [0x36, 0x03] (.sar .r3) ∧ decodesTo [0x37, 0x04] (.rol .r4) ∧ decodesTo [0x38, 0x05] (.ror .r5) ∧
    decodesTo [0x39, 0x06] (.swap .r6) ∧ decodesTo [0x3A, 0x02] (.inc16 .hl) ∧ decodesTo [0x3B, 0x00] (.dec16 .bc) ∧
    decodesTo [0x3C, 0b00100000] (.add16 .hl .bc) ∧ decodesTo [0x3C, 0b00010000] (.add16 .de .bc) := by decide

/-- R222 to R230: low address byte first. -/
theorem test_decode_absolute_jumps :
    decodesTo [0x40, 0x10, 0x02] (.jmp 0x0210) ∧ decodesTo [0x41, 0x00, 0x03] (.jz 0x0300) ∧
    decodesTo [0x42, 0x00, 0x03] (.jnz 0x0300) ∧ decodesTo [0x43, 0x00, 0x03] (.jc 0x0300) ∧
    decodesTo [0x44, 0x00, 0x03] (.jnc 0x0300) ∧ decodesTo [0x45, 0x00, 0x03] (.js 0x0300) ∧
    decodesTo [0x46, 0x00, 0x03] (.jns 0x0300) ∧ decodesTo [0x47, 0x00, 0x03] (.jo 0x0300) ∧
    decodesTo [0x48, 0x00, 0x03] (.jno 0x0300) := by decide

/-- R231 to R239. -/
theorem test_decode_relative_jumps :
    decodesTo [0x50, 0xFA] (.jr 0xFA) ∧ decodesTo [0x51, 0x04] (.jrz 0x04) ∧ decodesTo [0x52, 0xFC] (.jrnz 0xFC) ∧
    decodesTo [0x53, 0x02] (.jrc 0x02) ∧ decodesTo [0x54, 0xFE] (.jrnc 0xFE) ∧ decodesTo [0x55, 0x02] (.jrs 0x02) ∧
    decodesTo [0x56, 0x02] (.jrns 0x02) ∧ decodesTo [0x57, 0x10] (.jro 0x10) ∧
    decodesTo [0x58, 0x10] (.jrno 0x10) := by decide

/-- R241, R261 to R264. -/
theorem test_decode_call_and_stack :
    decodesTo [0x60, 0x40, 0x02] (.call 0x0240) ∧ decodesTo [0x61, 0x00] (.push .r0) ∧ decodesTo [0x62, 0x03] (.pop .r3) ∧
    decodesTo [0x63, 0x02] (.push16 .hl) ∧ decodesTo [0x64, 0x00] (.pop16 .bc) := by decide

/-- V9.1 to V9.8: illegal opcode bytes. -/
theorem test_decode_refuses_illegal_opcodes :
    ([0x0C, 0x1E, 0x2E, 0x3D, 0x49, 0x59, 0x65, 0x80, 0xFF] : List Byte).all
      (fun op => decide (decode [op] = .illegalOpcode op)) := by decide

/-- V9.9 to V9.12: invalid register selectors. -/
theorem test_decode_refuses_register_selectors :
    decode [0x11, 0x08, 0x55] = .badRegisterSelector 0x08 ∧ decode [0x30, 0xFF] = .badRegisterSelector 0xFF ∧
    decode [0x10, 0x80] = .badRegisterSelector 0x80 ∧ decode [0x20, 0x08] = .badRegisterSelector 0x08 := by decide

/-- V9.13 to V9.17: invalid pair selectors. -/
theorem test_decode_refuses_pair_selectors :
    decode [0x63, 0x03] = .badPairSelector 0x03 ∧ decode [0x3A, 0x03] = .badPairSelector 0x03 ∧
    decode [0x1B, 0x23] = .badPairSelector 0x23 ∧ decode [0x1B, 0x40] = .badPairSelector 0x40 ∧
    decode [0x1A, 0x04, 0x00, 0x00] = .badPairSelector 0x04 := by decide

/-- The opcode table's number of a row: the opcode its most significant byte (the rows `NOP`, `MOV`, `LDI`, `LD_a16`). -/
theorem test_table_numbers :
    decodeTableWord 8 0x00 = some .nop ∧ decodeTableWord 16 0x1073 = some (.mov .r7 .r3) ∧
    decodeTableWord 24 0x110055 = some (.ldi .r0 0x55) ∧
    decodeTableWord 32 0x12020005 = some (.ldAbs .r2 0x0500) ∧ decodeTableWord 8 0xFF = none := by decide

/-- R114: the bytes of `STA [0x0500]`. -/
theorem test_sta_bytes : encode (staAlias 0x0500) = [0x15, 0x00, 0x00, 0x05] := by decide

/-- R231, R115: `JR 0x0204` at `0x0208` is `50 FA`; the ends of the range and just past it. -/
theorem test_relOffset :
    relOffset 0x0208 0x0204 = some 0xFA ∧ relOffset 0x0200 0x0281 = some 0x7F ∧ relOffset 0x0200 0x0182 = some 0x80 ∧
    relOffset 0x0200 0x0282 = none ∧ relOffset 0x0200 0x0181 = none := by decide

/-! ### One step of each instruction -/

/-- The reset state (`PC = 0x0200`, `SP = 0x01FE`) with these registers and this flags byte. -/
def start (x : Regs) (f : Byte) : State := { State.reset with regs := x, flags := Flags.ofImage f }

/-- Registers all 0 but the first four. -/
def low (a b c d : Byte) : Regs := ⟨a, b, c, d, 0, 0, 0, 0⟩

/-- Registers all 0 but the pairs. -/
def pairs (bc de hl : Word) : Regs :=
  ⟨0, hiByte bc, loByte bc, hiByte de, loByte de, hiByte hl, loByte hl, 0⟩

/-- What `f` reads of the state after one step that fetches these bytes at `PC`. -/
def after {α : Type} (s : State) (bytes : List Byte) (f : State → α) : Option α :=
  match step (s.aboutToFetch bytes) with
  | .next t => some (f t)
  | .fault _ | .refused _ => none

/-- V2.1 -/
theorem test_mov : after (start ⟨0, 0, 0, 0, 0, 0xA7, 0, 0⟩ 0) [0x10, 0x35] (fun t => (t.regs.r3, t.regs.r5, t.pc)) = some (0xA7, 0xA7, 0x0202) := by decide +kernel

/-- V2.3 -/
theorem test_ldi_no_flags : after (start (low 0 0 0 0) 0) [0x11, 0x07, 0xFF] (fun t => (t.regs.r7, t.flags.image, t.pc)) = some (0xFF, 0, 0x0203) := by decide +kernel

/-- V2.4 -/
theorem test_ld_direct : after ((start (low 0 0 0 0) 0).writeByte 0x1234 0x5A) [0x12, 0x02, 0x34, 0x12] (fun t => (t.regs.r2, t.pc)) = some (0x5A, 0x0204) := by decide +kernel

/-- V2.6 -/
theorem test_ld_indirect_into_base : after ((start (pairs 0x0000 0x0000 0x0400) 0x00).writeByte 0x0400 0x77) [0x13, 0x05] (fun t => (t.regs.r5, t.regs.r6, t.pc)) = some (0x77, 0x00, 0x0202) := by decide +kernel

/-- V2.8 -/
theorem test_ld_indexed_negative : after ((start (pairs 0x0000 0x0000 0x0400) 0x00).writeByte 0x0380 0x22) [0x14, 0x01, 0x80] (fun t => (t.regs.r1, t.pc)) = some (0x22, 0x0203) := by decide +kernel

/-- V2.9 -/
theorem test_ld_indexed_wraps : after ((start (pairs 0x0000 0x0000 0x0000) 0x00).writeByte 0xFFFF 0x33) [0x14, 0x01, 0xFF] (fun t => (t.regs.r1)) = some (0x33) := by decide +kernel

/-- V2.11 -/
theorem test_st_direct : after (start (low 0x00 0x00 0x00 0xAB) 0x00) [0x15, 0x03, 0x00, 0x05] (fun t => (t.readByte 0x0500, t.pc)) = some (0xAB, 0x0204) := by decide +kernel

/-- V2.12 -/
theorem test_st_indirect : after (start (pairs 0x0000 0x0000 0x0410) 0x00) [0x16, 0x06] (fun t => (t.readByte 0x0410, t.pc)) = some (0x10, 0x0202) := by decide +kernel

/-- V2.13 -/
theorem test_st_indexed : after (start ⟨0x9C, 0, 0, 0, 0, 0x04, 0, 0⟩ 0) [0x17, 0x00, 0xFE] (fun t => (t.readByte 0x03FE, t.pc)) = some (0x9C, 0x0203) := by decide +kernel

/-- V2.14 -/
theorem test_ldz : after ((start (low 0 0 0 0) 0).writeByte 0x0080 0x66) [0x18, 0x04, 0x80] (fun t => (t.regs.r4, t.pc)) = some (0x66, 0x0203) := by decide +kernel

/-- V2.15 -/
theorem test_stz : after (start ⟨0, 0, 0, 0, 0x3D, 0, 0, 0⟩ 0) [0x19, 0x04, 0xFF] (fun t => (t.readByte 0x00FF, t.pc)) = some (0x3D, 0x0203) := by decide +kernel

/-- V2.16 -/
theorem test_ldi16_bc : after (start (low 0 0 0 0) 0) [0x1A, 0x00, 0xEF, 0xBE] (fun t => (t.regs.r1, t.regs.r2, t.pc)) = some (0xBE, 0xEF, 0x0204) := by decide +kernel

/-- V2.18 -/
theorem test_ldi16_sp : after ((start (low 0 0 0 0) 0).setSp 0x0000) [0x1A, 0x03, 0xFE, 0x01] (fun t => (t.sp, t.regs)) = some (0x01FE, low 0 0 0 0) := by decide +kernel

/-- V2.19 -/
theorem test_mov16 : after (start (pairs 0x1234 0x0000 0x0000) 0x00) [0x1B, 0x20] (fun t => (t.regs.r5, t.regs.r6, t.regs.r1, t.pc)) = some (0x12, 0x34, 0x12, 0x0202) := by decide +kernel

/-- V2.20 -/
theorem test_in_no_capability : after (start (low 0x00 0x00 0xEE 0x00) 0x00) [0x1C, 0x02, 0x10] (fun t => (t.regs.r2, t.pc, t.flags.image)) = some (0x00, 0x0203, 0) := by decide +kernel

/-- V2.21 -/
theorem test_out_event : after (start (low 0x00 0x41 0x00 0x00) 0x00) [0x1D, 0x01, 0x20] (fun t => (t.ports.written, t.pc)) = some ([(0x20, 0x41)], 0x0203) := by decide +kernel

/-- V3.41 -/
theorem test_add_overflow : after (start (low 0x00 0x40 0x00 0x00) 0x00) [0x20, 0x11] (fun t => (t.regs.r1, t.flags.image)) = some (0x80, 0x84) := by decide +kernel

/-- V3.40 -/
theorem test_add : after (start (low 0x03 0x07 0x00 0x00) 0x00) [0x20, 0x01] (fun t => (t.regs.r0, t.regs.r1, t.flags.image, t.pc)) = some (0x0A, 0x07, 0, 0x0202) := by decide +kernel

/-- V3.49 -/
theorem test_adc_true_nine_bit_sum : after (start (low 0x00 0xFF 0x00 0x00) 0x01) [0x21, 0x01] (fun t => (t.regs.r0, t.flags.image)) = some (0x00, 0x41) := by decide +kernel

/-- V3.11 -/
theorem test_adc_overflow_original_b : after (start (low 0x80 0x7F 0x00 0x00) 0x01) [0x21, 0x01] (fun t => (t.regs.r0, t.flags.image)) = some (0x00, 0x41) := by decide +kernel

/-- V3.42 -/
theorem test_sub_ignores_carry : after (start (low 0x00 0x40 0x00 0x00) 0x01) [0x22, 0x11] (fun t => (t.regs.r1, t.flags.image)) = some (0x00, 0x40) := by decide +kernel

/-- V3.24 -/
theorem test_sub_borrow : after (start (low 0x05 0x09 0x00 0x00) 0x00) [0x22, 0x01] (fun t => (t.regs.r0, t.flags.image)) = some (0xFC, 0x81) := by decide +kernel

/-- V3.50 -/
theorem test_sbc : after (start (low 0x10 0x01 0x00 0x00) 0x01) [0x23, 0x01] (fun t => (t.regs.r0, t.flags.image)) = some (0x0E, 0x00) := by decide +kernel

/-- V3.35 -/
theorem test_sbc_overflow_original_b : after (start (low 0x7F 0xFF 0x00 0x00) 0x01) [0x23, 0x01] (fun t => (t.regs.r0, t.flags.image)) = some (0x7F, 0x01) := by decide +kernel

/-- V3.44 -/
theorem test_cmp : after (start (low 0x05 0x09 0x00 0x00) 0x00) [0x24, 0x01] (fun t => (t.regs.r0, t.flags.image)) = some (0x05, 0x81) := by decide +kernel

/-- V4.1 -/
theorem test_and_clears_carry_and_overflow : after (start (low 0xF0 0x3C 0x00 0x00) 0x05) [0x25, 0x01] (fun t => (t.regs.r0, t.flags.image)) = some (0x30, 0x00) := by decide +kernel

/-- V4.3 -/
theorem test_or : after (start (low 0x80 0x01 0x00 0x00) 0x01) [0x26, 0x01] (fun t => (t.regs.r0, t.flags.image)) = some (0x81, 0x80) := by decide +kernel

/-- V4.5 -/
theorem test_xor : after (start (low 0xFF 0x0F 0x00 0x00) 0x00) [0x27, 0x01] (fun t => (t.regs.r0, t.flags.image)) = some (0xF0, 0x80) := by decide +kernel

/-- V3.45 -/
theorem test_addi : after (start (low 0x00 0x00 0x00 0xFF) 0x00) [0x28, 0x03, 0x01] (fun t => (t.regs.r3, t.flags.image, t.pc)) = some (0x00, 0x41, 0x0203) := by decide +kernel

/-- V3.46 -/
theorem test_subi : after (start (low 0x00 0x00 0x00 0x00) 0x00) [0x29, 0x03, 0x01] (fun t => (t.regs.r3, t.flags.image, t.pc)) = some (0xFF, 0x81, 0x0203) := by decide +kernel

/-- V3.48 -/
theorem test_cmpi : after (start (low 0x00 0x00 0x00 0x10) 0x00) [0x2A, 0x03, 0x20] (fun t => (t.regs.r3, t.flags.image, t.pc)) = some (0x10, 0x81, 0x0203) := by decide +kernel

/-- V4.6 -/
theorem test_andi : after (start (low 0xA5 0x00 0x00 0x00) 0x00) [0x2B, 0x00, 0x0F] (fun t => (t.regs.r0, t.flags.image, t.pc)) = some (0x05, 0x00, 0x0203) := by decide +kernel

/-- V4.7 -/
theorem test_ori : after (start (low 0x01 0x00 0x00 0x00) 0x00) [0x2C, 0x00, 0x80] (fun t => (t.regs.r0, t.flags.image, t.pc)) = some (0x81, 0x80, 0x0203) := by decide +kernel

/-- V4.8 -/
theorem test_xori : after (start (low 0xFF 0x00 0x00 0x00) 0x00) [0x2D, 0x00, 0xFF] (fun t => (t.regs.r0, t.flags.image, t.pc)) = some (0x00, 0x40, 0x0203) := by decide +kernel

/-- V3.51 -/
theorem test_inc_keeps_carry : after (start (low 0xFF 0x00 0x00 0x00) 0x01) [0x30, 0x00] (fun t => (t.regs.r0, t.flags.image, t.pc)) = some (0x00, 0x41, 0x0202) := by decide +kernel

/-- V3.52 -/
theorem test_inc_overflow : after (start (low 0x7F 0x00 0x00 0x00) 0x00) [0x30, 0x00] (fun t => (t.regs.r0, t.flags.image)) = some (0x80, 0x84) := by decide +kernel

/-- V3.53 -/
theorem test_dec_wraps : after (start (low 0x00 0x00 0x00 0x00) 0x00) [0x31, 0x00] (fun t => (t.regs.r0, t.flags.image)) = some (0xFF, 0x80) := by decide +kernel

/-- V3.54 -/
theorem test_dec_overflow : after (start (low 0x80 0x00 0x00 0x00) 0x01) [0x31, 0x00] (fun t => (t.regs.r0, t.flags.image)) = some (0x7F, 0x05) := by decide +kernel

/-- V3.57 -/
theorem test_neg_most_negative : after (start (low 0x80 0x00 0x00 0x00) 0x00) [0x32, 0x00] (fun t => (t.regs.r0, t.flags.image)) = some (0x80, 0x85) := by decide +kernel

/-- V3.56 -/
theorem test_neg_zero : after (start (low 0x00 0x00 0x00 0x00) 0x01) [0x32, 0x00] (fun t => (t.regs.r0, t.flags.image)) = some (0x00, 0x40) := by decide +kernel

/-- V4.9 -/
theorem test_not : after (start (low 0xFF 0x00 0x00 0x00) 0x05) [0x33, 0x00] (fun t => (t.regs.r0, t.flags.image)) = some (0x00, 0x40) := by decide +kernel

/-- V5.2 -/
theorem test_shl : after (start (low 0x80 0x00 0x00 0x00) 0x04) [0x34, 0x00] (fun t => (t.regs.r0, t.flags.image)) = some (0x00, 0x45) := by decide +kernel

/-- V5.3 -/
theorem test_shl_ignores_carry : after (start (low 0x40 0x00 0x00 0x00) 0x01) [0x34, 0x00] (fun t => (t.regs.r0, t.flags.image)) = some (0x80, 0x80) := by decide +kernel

/-- V5.6 -/
theorem test_shr : after (start (low 0x80 0x00 0x00 0x00) 0x80) [0x35, 0x00] (fun t => (t.regs.r0, t.flags.image)) = some (0x40, 0x00) := by decide +kernel

/-- V5.8 -/
theorem test_sar : after (start (low 0xFF 0x00 0x00 0x00) 0x00) [0x36, 0x00] (fun t => (t.regs.r0, t.flags.image)) = some (0xFF, 0x81) := by decide +kernel

/-- V5.9 -/
theorem test_sar_sign : after (start (low 0x80 0x00 0x00 0x00) 0x00) [0x36, 0x00] (fun t => (t.regs.r0, t.flags.image)) = some (0xC0, 0x80) := by decide +kernel

/-- V5.13 -/
theorem test_rol : after (start (low 0x55 0x00 0x00 0x00) 0x01) [0x37, 0x00] (fun t => (t.regs.r0, t.flags.image)) = some (0xAB, 0x80) := by decide +kernel

/-- V5.11 -/
theorem test_rol_out : after (start (low 0x80 0x00 0x00 0x00) 0x00) [0x37, 0x00] (fun t => (t.regs.r0, t.flags.image)) = some (0x00, 0x41) := by decide +kernel

/-- V5.18 -/
theorem test_ror : after (start (low 0xAA 0x00 0x00 0x00) 0x01) [0x38, 0x00] (fun t => (t.regs.r0, t.flags.image)) = some (0xD5, 0x80) := by decide +kernel

/-- V5.16 -/
theorem test_ror_out : after (start (low 0x01 0x00 0x00 0x00) 0x00) [0x38, 0x00] (fun t => (t.regs.r0, t.flags.image)) = some (0x00, 0x41) := by decide +kernel

/-- V5.20 -/
theorem test_swap : after (start (low 0x0F 0x00 0x00 0x00) 0x05) [0x39, 0x00] (fun t => (t.regs.r0, t.flags.image)) = some (0xF0, 0x85) := by decide +kernel

/-- V5.30 -/
theorem test_inc16_carries_into_high : after (start (pairs 0x0000 0x0000 0x04FF) 0x00) [0x3A, 0x02] (fun t => (t.regs.r5, t.regs.r6, t.flags.image)) = some (0x05, 0x00, 0x00) := by decide +kernel

/-- V5.31 -/
theorem test_inc16_wraps : after (start (pairs 0x0000 0x0000 0xFFFF) 0x01) [0x3A, 0x02] (fun t => (t.regs.r5, t.regs.r6, t.flags.image)) = some (0x00, 0x00, 0x41) := by decide +kernel

/-- V5.35 -/
theorem test_dec16 : after (start (pairs 0x0000 0x0000 0x0000) 0x00) [0x3B, 0x02] (fun t => (t.regs.r5, t.regs.r6, t.flags.image)) = some (0xFF, 0xFF, 0x80) := by decide +kernel

/-- V5.38 -/
theorem test_add16_doubles : after (start (pairs 0x0000 0x0000 0x4000) 0x00) [0x3C, 0x22] (fun t => (t.regs.r5, t.regs.r6, t.flags.image)) = some (0x80, 0x00, 0x80) := by decide +kernel

/-- V5.39 -/
theorem test_add16_loses_carry : after (start (pairs 0xFFFF 0x0001 0x0000) 0x00) [0x3C, 0x01] (fun t => (t.regs.r1, t.regs.r2, t.flags.image)) = some (0x00, 0x00, 0x40) := by decide +kernel

/-- V6.1 -/
theorem test_jmp : after (start (low 0 0 0 0) 0) [0x40, 0x34, 0x12] (fun t => (t.pc)) = some (0x1234) := by decide +kernel

/-- V6.2 -/
theorem test_jz_taken : after (start (low 0x00 0x00 0x00 0x00) 0x40) [0x41, 0x00, 0x03] (fun t => (t.pc)) = some (0x0300) := by decide +kernel

/-- V6.2 -/
theorem test_jz_not_taken : after (start (low 0x00 0x00 0x00 0x00) 0x85) [0x41, 0x00, 0x03] (fun t => (t.pc)) = some (0x0203) := by decide +kernel

/-- V6.3 -/
theorem test_jnz_taken : after (start (low 0x00 0x00 0x00 0x00) 0x85) [0x42, 0x00, 0x03] (fun t => (t.pc)) = some (0x0300) := by decide +kernel

/-- V6.3 -/
theorem test_jnz_not_taken : after (start (low 0x00 0x00 0x00 0x00) 0x40) [0x42, 0x00, 0x03] (fun t => (t.pc)) = some (0x0203) := by decide +kernel

/-- V6.4 -/
theorem test_jc_taken : after (start (low 0x00 0x00 0x00 0x00) 0x01) [0x43, 0x00, 0x03] (fun t => (t.pc)) = some (0x0300) := by decide +kernel

/-- V6.4 -/
theorem test_jc_not_taken : after (start (low 0x00 0x00 0x00 0x00) 0xC4) [0x43, 0x00, 0x03] (fun t => (t.pc)) = some (0x0203) := by decide +kernel

/-- V6.5 -/
theorem test_jnc_taken : after (start (low 0x00 0x00 0x00 0x00) 0xC4) [0x44, 0x00, 0x03] (fun t => (t.pc)) = some (0x0300) := by decide +kernel

/-- V6.5 -/
theorem test_jnc_not_taken : after (start (low 0x00 0x00 0x00 0x00) 0x01) [0x44, 0x00, 0x03] (fun t => (t.pc)) = some (0x0203) := by decide +kernel

/-- V6.6 -/
theorem test_js_taken : after (start (low 0x00 0x00 0x00 0x00) 0x80) [0x45, 0x00, 0x03] (fun t => (t.pc)) = some (0x0300) := by decide +kernel

/-- V6.6 -/
theorem test_js_not_taken : after (start (low 0x00 0x00 0x00 0x00) 0x45) [0x45, 0x00, 0x03] (fun t => (t.pc)) = some (0x0203) := by decide +kernel

/-- V6.7 -/
theorem test_jns_taken : after (start (low 0x00 0x00 0x00 0x00) 0x45) [0x46, 0x00, 0x03] (fun t => (t.pc)) = some (0x0300) := by decide +kernel

/-- V6.7 -/
theorem test_jns_not_taken : after (start (low 0x00 0x00 0x00 0x00) 0x80) [0x46, 0x00, 0x03] (fun t => (t.pc)) = some (0x0203) := by decide +kernel

/-- V6.8 -/
theorem test_jo_taken : after (start (low 0x00 0x00 0x00 0x00) 0x04) [0x47, 0x00, 0x03] (fun t => (t.pc)) = some (0x0300) := by decide +kernel

/-- V6.8 -/
theorem test_jo_not_taken : after (start (low 0x00 0x00 0x00 0x00) 0xC1) [0x47, 0x00, 0x03] (fun t => (t.pc)) = some (0x0203) := by decide +kernel

/-- V6.9 -/
theorem test_jno_taken : after (start (low 0x00 0x00 0x00 0x00) 0xC1) [0x48, 0x00, 0x03] (fun t => (t.pc)) = some (0x0300) := by decide +kernel

/-- V6.9 -/
theorem test_jno_not_taken : after (start (low 0x00 0x00 0x00 0x00) 0x04) [0x48, 0x00, 0x03] (fun t => (t.pc)) = some (0x0203) := by decide +kernel

/-- V6.13 -/
theorem test_jr_back : after (start (low 0 0 0 0) 0) [0x50, 0x80] (fun t => (t.pc)) = some (0x0182) := by decide +kernel

/-- V6.14 -/
theorem test_jr_wraps : after ((start (low 0 0 0 0) 0).setPc 0xFFF8) [0x50, 0x10] (fun t => (t.pc)) = some (0x000A) := by decide +kernel

/-- V6.16 -/
theorem test_jrz_taken : after (start (low 0x00 0x00 0x00 0x00) 0x40) [0x51, 0x05] (fun t => (t.pc)) = some (0x0207) := by decide +kernel

/-- V6.16 -/
theorem test_jrz_not_taken : after (start (low 0x00 0x00 0x00 0x00) 0x85) [0x51, 0x05] (fun t => (t.pc)) = some (0x0202) := by decide +kernel

/-- V6.17 -/
theorem test_jrnz_taken : after (start (low 0x00 0x00 0x00 0x00) 0x85) [0x52, 0xF4] (fun t => (t.pc)) = some (0x01F6) := by decide +kernel

/-- V6.17 -/
theorem test_jrnz_not_taken : after (start (low 0x00 0x00 0x00 0x00) 0x40) [0x52, 0xF4] (fun t => (t.pc)) = some (0x0202) := by decide +kernel

/-- V6.18 -/
theorem test_jrc_taken : after (start (low 0x00 0x00 0x00 0x00) 0x01) [0x53, 0x02] (fun t => (t.pc)) = some (0x0204) := by decide +kernel

/-- V6.18 -/
theorem test_jrc_not_taken : after (start (low 0x00 0x00 0x00 0x00) 0xC4) [0x53, 0x02] (fun t => (t.pc)) = some (0x0202) := by decide +kernel

/-- V6.19 -/
theorem test_jrnc_taken : after (start (low 0x00 0x00 0x00 0x00) 0xC4) [0x54, 0x02] (fun t => (t.pc)) = some (0x0204) := by decide +kernel

/-- V6.19 -/
theorem test_jrnc_not_taken : after (start (low 0x00 0x00 0x00 0x00) 0x01) [0x54, 0x02] (fun t => (t.pc)) = some (0x0202) := by decide +kernel

/-- V6.20 -/
theorem test_jrs_taken : after (start (low 0x00 0x00 0x00 0x00) 0x80) [0x55, 0x02] (fun t => (t.pc)) = some (0x0204) := by decide +kernel

/-- V6.20 -/
theorem test_jrs_not_taken : after (start (low 0x00 0x00 0x00 0x00) 0x45) [0x55, 0x02] (fun t => (t.pc)) = some (0x0202) := by decide +kernel

/-- V6.21 -/
theorem test_jrns_taken : after (start (low 0x00 0x00 0x00 0x00) 0x45) [0x56, 0x02] (fun t => (t.pc)) = some (0x0204) := by decide +kernel

/-- V6.21 -/
theorem test_jrns_not_taken : after (start (low 0x00 0x00 0x00 0x00) 0x80) [0x56, 0x02] (fun t => (t.pc)) = some (0x0202) := by decide +kernel

/-- V6.22 -/
theorem test_jro_taken : after (start (low 0x00 0x00 0x00 0x00) 0x04) [0x57, 0x02] (fun t => (t.pc)) = some (0x0204) := by decide +kernel

/-- V6.22 -/
theorem test_jro_not_taken : after (start (low 0x00 0x00 0x00 0x00) 0xC1) [0x57, 0x02] (fun t => (t.pc)) = some (0x0202) := by decide +kernel

/-- V6.23 -/
theorem test_jrno_taken : after (start (low 0x00 0x00 0x00 0x00) 0xC1) [0x58, 0x02] (fun t => (t.pc)) = some (0x0204) := by decide +kernel

/-- V6.23 -/
theorem test_jrno_not_taken : after (start (low 0x00 0x00 0x00 0x00) 0x04) [0x58, 0x02] (fun t => (t.pc)) = some (0x0202) := by decide +kernel

/-- V6.30 -/
theorem test_jp_hl : after (start (pairs 0x0000 0x0000 0xABCD) 0x00) [0x0B] (fun t => (t.pc, t.regs.r5)) = some (0xABCD, 0xAB) := by decide +kernel

/-- V6.31 -/
theorem test_call : after (start (low 0 0 0 0) 0) [0x60, 0x00, 0x03] (fun t => (t.readByte 0x01FD, t.readByte 0x01FC, t.sp, t.pc)) = some (0x02, 0x03, 0x01FC, 0x0300) := by decide +kernel

/-- V6.32 -/
theorem test_call_at_top : after ((start (low 0 0 0 0) 0).setPc 0xFFFE) [0x60, 0x00, 0x03] (fun t => (t.readByte 0x01FD, t.readByte 0x01FC, t.pc)) = some (0x00, 0x01, 0x0300) := by decide +kernel

/-- V6.33 -/
theorem test_ret_keeps_enable : after (((((start (low 0 0 0 0) 0).setSp 0x01FC).writeByte 0x01FC 0x03).writeByte 0x01FD 0x02).setIe true) [0x07] (fun t => (t.pc, t.sp, t.ie)) = some (0x0203, 0x01FE, true) := by decide +kernel

/-- V6.35 -/
theorem test_ret_wraps : after ((((start (low 0 0 0 0) 0).setSp 0xFFFF).writeByte 0xFFFF 0x34).writeByte 0x0000 0x12) [0x07] (fun t => (t.pc, t.sp)) = some (0x1234, 0x0001) := by decide +kernel

/-- V7.1 -/
theorem test_push : after (start (low 0x00 0x00 0x00 0xAB) 0x00) [0x61, 0x03] (fun t => (t.sp, t.readByte 0x01FD, t.pc)) = some (0x01FD, 0xAB, 0x0202) := by decide +kernel

/-- V7.2 -/
theorem test_push_wraps : after ((start (low 0x00 0x00 0x00 0xAB) 0x00).setSp 0x0000) [0x61, 0x03] (fun t => (t.sp, t.readByte 0xFFFF)) = some (0xFFFF, 0xAB) := by decide +kernel

/-- V7.3 -/
theorem test_pop_no_flags : after (((start (low 0x00 0x00 0x00 0x00) 0x40).setSp 0x01FD).writeByte 0x01FD 0x80) [0x62, 0x04] (fun t => (t.regs.r4, t.sp, t.flags.image)) = some (0x80, 0x01FE, 0x40) := by decide +kernel

/-- V7.5 -/
theorem test_push16 : after (start (pairs 0x1234 0x0000 0x0000) 0x00) [0x63, 0x00] (fun t => (t.readByte 0x01FD, t.readByte 0x01FC, t.sp)) = some (0x12, 0x34, 0x01FC) := by decide +kernel

/-- V7.6 -/
theorem test_pop16 : after ((((start (low 0 0 0 0) 0).setSp 0x01FC).writeByte 0x01FC 0x34).writeByte 0x01FD 0x12) [0x64, 0x01] (fun t => (t.regs.r3, t.regs.r4, t.sp)) = some (0x12, 0x34, 0x01FE) := by decide +kernel

/-- V7.8 -/
theorem test_pushf : after (start (low 0x00 0x00 0x00 0x00) 0xC5) [0x09] (fun t => (t.readByte 0x01FD, t.sp, t.flags.image, t.pc)) = some (0xC5, 0x01FD, 0xC5, 0x0201) := by decide +kernel

/-- V7.12 -/
theorem test_popf : after (((start (low 0 0 0 0) 0).setSp 0x01FD).writeByte 0x01FD 0x85) [0x0A] (fun t => (t.flags.image, t.sp)) = some (0x85, 0x01FE) := by decide +kernel

/-- V7.11 -/
theorem test_popf_discards_reserved : after (((start (low 0x00 0x00 0x00 0x00) 0xC5).setSp 0x01FD).writeByte 0x01FD 0x3A) [0x0A] (fun t => (t.flags.image)) = some (0x00) := by decide +kernel

/-- V7.15 -/
theorem test_scf : after (start (low 0x00 0x00 0x00 0x00) 0x41) [0x04] (fun t => (t.flags.image, t.pc)) = some (0x41, 0x0201) := by decide +kernel

/-- V7.16 -/
theorem test_ccf_clears : after (start (low 0x00 0x00 0x00 0x00) 0x81) [0x05] (fun t => (t.flags.image)) = some (0x80) := by decide +kernel

/-- V7.19 -/
theorem test_cmf : after (start (low 0x00 0x00 0x00 0x00) 0x05) [0x06] (fun t => (t.flags.image)) = some (0x04) := by decide +kernel

/-- V8.1 -/
theorem test_nop : after (start (low 0 0 0 0) 0) [0x00] (fun t => (t.pc, t.run, t.result)) = some (0x0201, .running, .continued) := by decide +kernel

/-- V8.2 -/
theorem test_ei : after (start (low 0 0 0 0) 0) [0x02] (fun t => (t.ie, t.pc)) = some (true, 0x0201) := by decide +kernel

/-- V8.3 -/
theorem test_di : after ((start (low 0 0 0 0) 0).setIe true) [0x03] (fun t => (t.ie, t.pc)) = some (false, 0x0201) := by decide +kernel

/-- V8.4 -/
theorem test_hlt : after (start (low 0 0 0 0) 0) [0x01] (fun t => (t.run, t.pc, t.result)) = some (.halted, 0x0201, .halted) := by decide +kernel

/-- V8.9 -/
theorem test_reti : after ((((start (low 0 0 0 0) 0).setSp 0x01FC).writeByte 0x01FC 0x05).writeByte 0x01FD 0x02) [0x08] (fun t => (t.pc, t.sp, t.ie)) = some (0x0205, 0x01FE, true) := by decide +kernel

/-! ### Interrupts, faults, the halted state -/

/-- The reset state with the vector at `0x0300` and these `IE` and `IRQP`. -/
def withVector (ie irqp : Bool) : State :=
  (((State.reset.writeByte 0x01FE 0x00).writeByte 0x01FF 0x03).setIe ie).setIrqp irqp

/-- V8.6 -/
theorem test_interrupt_latched_while_masked : after (withVector false true) [0x00] (fun t => (t.pc, t.irqp, t.ie)) = some (0x0201, true, false) := by decide +kernel

/-- V8.7 -/
theorem test_interrupt_entry : after (withVector true true) [0x00] (fun t => (t.readByte 0x01FD, t.readByte 0x01FC, t.sp, t.pc, t.ie, t.irqp)) = some (0x02, 0x01, 0x01FC, 0x0300, false, false) := by decide +kernel

/-- V8.8 -/
theorem test_ei_takes_pending : after (withVector false true) [0x02] (fun t => (t.readByte 0x01FC, t.sp, t.pc, t.ie)) = some (0x01, 0x01FC, 0x0300, false) := by decide +kernel

/-- V8.10 -/
theorem test_reti_reenters : after ((((withVector false true).setSp 0x01FC).writeByte 0x01FC 5).writeByte 0x01FD 2) [0x08] (fun t => (t.readByte 0x01FD, t.readByte 0x01FC, t.sp, t.pc, t.ie)) = some (0x02, 0x05, 0x01FC, 0x0300, false) := by decide +kernel

/-- V8.11 -/
theorem test_di_masks_at_once : after (withVector true true) [0x03] (fun t => (t.pc, t.ie, t.irqp)) = some (0x0201, false, true) := by decide +kernel

/-- V8.12 -/
theorem test_hlt_woken_in_same_step : after (withVector true true) [0x01] (fun t => (t.readByte 0x01FC, t.pc, t.run)) = some (0x01, 0x0300, .running) := by decide +kernel

/-- V8.16 -/
theorem test_call_then_entry : after (withVector true true) [0x60, 0x00, 0x04] (fun t => (t.readByte 0x01FD, t.readByte 0x01FC, t.readByte 0x01FB, t.readByte 0x01FA, t.sp, t.pc)) = some (0x02, 0x03, 0x04, 0x00, 0x01FA, 0x0300) := by decide +kernel

/-- V8.17 -/
theorem test_fault_takes_no_interrupt : after (withVector true true) [0xFF] (fun t => (t.result, t.pc, t.sp, t.ie, t.irqp)) = some (.faulted .invalidOpcode, 0x0200, 0x01FE, true, true) := by decide +kernel

/-- P5b -/
theorem test_selector_fault_changes_nothing : after (start (low 1 2 3 4) 0xC5) [0x20, 0x08] (fun t => (t.result, t.pc, t.regs, t.flags.image)) = some (.faulted .invalidOpcode, 0x0200, low 1 2 3 4, 0xC5) := by decide +kernel

/-- R319: with `SP = 0x0200` at entry the push overwrites both vector bytes, and the pushed bytes are the vector used. -/
theorem test_entry_reads_the_pushed_vector :
    after ((withVector true true).setSp 0x0200) [0x40, 0x34, 0x12] (fun t => (t.pc, t.sp)) = some (0x1234, 0x01FE) := by
  decide +kernel

/-- V8.13: a halted core wakes without fetching. -/
theorem test_halted_wakes :
    (match step ((withVector true true).setRun .halted) with
      | .next t => some (t.readByte 0x01FD, t.readByte 0x01FC, t.pc, t.run)
      | .fault _ | .refused _ => none) = some (0x02, 0x00, 0x0300, .running) := by decide +kernel

/-- V8.14: a halted core with interrupts masked stays as it is. -/
theorem test_halted_stays :
    step ((withVector false true).setRun .halted) = .next ((withVector false true).setRun .halted) := rfl

/-- V9.20: a faulted core is frozen. -/
theorem test_faulted_frozen : step (faultedState (withVector true true)) = .next (faultedState (withVector true true)) := rfl

/-- The bytes `withFetchWord` stores are the ones the next step runs (the row `ADD`, R160). -/
theorem test_withFetchWord_runs :
    (match step ((start (low 3 7 0 0) 0).withFetchWord 16 0x2001) with
      | .next t => some (t.regs.r0, t.pc)
      | .fault _ | .refused _ => none) = some (0x0A, 0x0202) := by decide +kernel

/-- P5a: reset leaves the fault and the memory. -/
theorem test_reset_leaves_fault :
    ((faultedState (withVector true true)).hostReset 0x0200 0x01FE).result = .continued ∧
    ((faultedState (withVector true true)).hostReset 0x0200 0x01FE).readByte 0x01FF = 0x03 := by decide +kernel

/-- R40: the snapshot's window, high addresses last. -/
theorem test_snapshot_window : ((withVector false false).snapshot 0x01FE 2).window = [0x00, 0x03] := by decide +kernel

/-- R37: the codes of the fault reasons. -/
theorem test_fault_codes :
    [FaultReason.none, .invalidOpcode, .stackOverflow, .stackUnderflow, .memoryOutOfRange].map FaultReason.code =
      [0, 1, 2, 3, 4] := rfl

/-- R135 and R70: an attached capability answers each `IN` with the free answer to that read. -/
theorem test_in_attached_answer :
    after ((start (low 0 0 0 0) 0).hostAct (.attachPorts true)) [0x1C, 0x02, 0x10] (fun t => (t.regs.r2, t.ports.reads)) =
      some (Config.portAnswer 0 0x10, 1) := by rfl

/-! ### Witnesses: for each statement with hypotheses, values that meet them, each clause at the ends of its range -/

/-- A running core at the reset values whose next step fetches these bytes. -/
def fetching (bytes : List Byte) : State := State.reset.aboutToFetch bytes

/-- Whether an outcome is this next state. -/
def answers (o : Host.Outcome State Fault Refusal) (t : State) : Bool :=
  match o with
  | .next u => decide (u = t)
  | .fault _ | .refused _ => false

theorem eq_next_of_answers {o : Host.Outcome State Fault Refusal} {t : State} (h : answers o t = true) :
    o = .next t := by
  cases o with
  | next u => simpa [answers] using h
  | fault r => cases h
  | refused r => cases h

theorem witness_EncodeThenDecode : (Instr.ldi16 .sp 0xFFFF).wellFormed = true ∧ (Instr.mov16 .bc .hl).wellFormed = true := by
  decide

theorem witness_DecodedBytesAreTheEncoding : decode [0x10, 0x77, 0xFF] = .instr (.mov .r7 .r7) [0xFF] := by decide

theorem witness_IllegalOpcodeFaults :
    ([0x0C, 0x0F, 0x1E, 0x1F, 0x2E, 0x2F, 0x3D, 0x3F, 0x49, 0x4F, 0x59, 0x5F, 0x65, 0xFF] : List Byte).all
      (fun op => decide ((fetching [op]).run = .running ∧ IllegalOpcodeByte ((fetching [op]).readByte (fetching [op]).pc))) := by
  decide +kernel

theorem witness_InvalidRegisterSelectorFaults_one :
    (fetching [0x11, 0x08]).run = .running ∧ (fetching [0x11, 0x08]).readByte (fetching [0x11, 0x08]).pc = 0x11 ∧
    (fetching [0x11, 0x08]).readByte ((fetching [0x11, 0x08]).pc + 1) &&& 0xF8 ≠ 0 := by decide +kernel

theorem witness_InvalidRegisterSelectorFaults_two :
    (fetching [0x10, 0x80]).run = .running ∧ (fetching [0x10, 0x80]).readByte (fetching [0x10, 0x80]).pc = 0x10 ∧
    (fetching [0x10, 0x80]).readByte ((fetching [0x10, 0x80]).pc + 1) &&& 0x88 ≠ 0 := by decide +kernel

theorem witness_InvalidPairSelectorFaults_ldi16 :
    (fetching [0x1A, 0x04]).run = .running ∧ (fetching [0x1A, 0x04]).readByte (fetching [0x1A, 0x04]).pc = 0x1A ∧
    (fetching [0x1A, 0x04]).readByte ((fetching [0x1A, 0x04]).pc + 1) &&& 0xFC ≠ 0 := by decide +kernel

theorem witness_InvalidPairSelectorFaults_one :
    (fetching [0x63, 0x03]).run = .running ∧ (fetching [0x63, 0x03]).readByte (fetching [0x63, 0x03]).pc = 0x63 ∧
    (fetching [0x63, 0x03]).readByte ((fetching [0x63, 0x03]).pc + 1) = 0x03 ∧
    (fetching [0x3A, 0x04]).readByte (fetching [0x3A, 0x04]).pc = 0x3A ∧
    (fetching [0x3A, 0x04]).readByte ((fetching [0x3A, 0x04]).pc + 1) &&& 0xFC ≠ 0 := by decide +kernel

theorem witness_InvalidPairSelectorFaults_two :
    ([0x04, 0x40, 0x30, 0x03] : List Byte).all (fun sel =>
      decide ((fetching [0x1B, sel]).run = .running ∧ (fetching [0x1B, sel]).readByte (fetching [0x1B, sel]).pc = 0x1B ∧
        ((fetching [0x1B, sel]).readByte ((fetching [0x1B, sel]).pc + 1) &&& 0xCC ≠ 0 ∨
          (fetching [0x1B, sel]).readByte ((fetching [0x1B, sel]).pc + 1) &&& 0x30 = 0x30 ∨
          (fetching [0x1B, sel]).readByte ((fetching [0x1B, sel]).pc + 1) &&& 0x03 = 0x03))) := by decide +kernel

theorem witness_AssembledOffsetReachesTarget :
    relOffset State.reset.pc 0x0281 = some 0x7F ∧ relOffset State.reset.pc 0x0182 = some 0x80 := by decide

theorem witness_StepRunsDecodedInstruction :
    (fetching [0x30, 0x02, 0x00, 0x00]).run = .running ∧
    decode [(fetching [0x30, 0x02, 0x00, 0x00]).readByte 0x0200, (fetching [0x30, 0x02, 0x00, 0x00]).readByte 0x0201,
      (fetching [0x30, 0x02, 0x00, 0x00]).readByte 0x0202, (fetching [0x30, 0x02, 0x00, 0x00]).readByte 0x0203] =
      .instr (.inc .r2) [0x00, 0x00] := by decide +kernel

theorem witness_FaultChangesOnlyRunAndReason :
    (fetching [0xFF]).run ≠ .faulted ∧ step (fetching [0xFF]) = .next (faultedState (fetching [0xFF])) ∧
    (faultedState (fetching [0xFF])).run = .faulted :=
  ⟨by decide +kernel, eq_next_of_answers (by decide +kernel), by decide +kernel⟩

theorem witness_FaultedCoreIsFrozen :
    (faultedState State.reset).run = .faulted ∧
    ((faultedState State.reset).hostAct (.reset 0 0)).run ≠ .faulted := by decide

theorem witness_HaltedCoreWaitsForTheInterrupt :
    ((withVector true true).setRun .halted).run = .halted ∧ ((withVector true true).setRun .halted).ie = true ∧
    ((withVector true true).setRun .halted).irqp = true ∧ ((withVector true false).setRun .halted).run = .halted ∧
    ((withVector true false).setRun .halted).irqp = false ∧ ((withVector false true).setRun .halted).ie = false := by
  decide +kernel

/-- A halted core with an interrupt enabled and pending: its instruction part changes nothing. -/
theorem witness_InterruptTakenExactlyWhenEnabledAndPending_taken :
    instructionPhase ((withVector true true).setRun .halted) = .next ((withVector true true).setRun .halted) ∧
    ((withVector true true).setRun .halted).run ≠ .faulted ∧
    (((withVector true true).setRun .halted).ie = true ∧ ((withVector true true).setRun .halted).irqp = true) :=
  ⟨eq_next_of_answers (by decide +kernel), by decide +kernel, by decide +kernel⟩

theorem witness_InterruptTakenExactlyWhenEnabledAndPending_not_taken :
    instructionPhase ((withVector false true).setRun .halted) = .next ((withVector false true).setRun .halted) ∧
    ((withVector false true).setRun .halted).run ≠ .faulted ∧
    ¬(((withVector false true).setRun .halted).ie = true ∧ ((withVector false true).setRun .halted).irqp = true) :=
  ⟨eq_next_of_answers (by decide +kernel), by decide +kernel, by decide +kernel⟩

theorem witness_InterruptEntrySavesOnlyPc :
    instructionPhase ((withVector true true).aboutToFetch [0x00]) =
      .next { (withVector true true).aboutToFetch [0x00] with pc := 0x0201 } ∧
    ((withVector true true).aboutToFetch [0x00]).run ≠ .faulted ∧ ((withVector true true).aboutToFetch [0x00]).ie = true ∧
    ((withVector true true).aboutToFetch [0x00]).irqp = true :=
  ⟨eq_next_of_answers (by decide +kernel), by decide +kernel, by decide +kernel, by decide +kernel⟩

theorem witness_RunStateTransitions :
    step (faultedState State.reset) = .next (faultedState State.reset) ∧
    step ((withVector true false).setRun .halted) = .next ((withVector true false).setRun .halted) ∧
    step (fetching [0x01]) = .next { fetching [0x01] with pc := 0x0201, run := .halted } ∧
    step (fetching [0xFF]) = .next (faultedState (fetching [0xFF])) :=
  ⟨rfl, eq_next_of_answers (by decide +kernel), eq_next_of_answers (by decide +kernel),
    eq_next_of_answers (by decide +kernel)⟩

theorem witness_StepKeepsTheMachineInvariant :
    (fetching [0x00]).Inv ∧ step (fetching [0x00]) = .next { fetching [0x00] with pc := 0x0201 } ∧
    (faultedState State.reset).Inv ∧ step (faultedState State.reset) = .next (faultedState State.reset) :=
  ⟨by decide +kernel, eq_next_of_answers (by decide +kernel), by decide +kernel, rfl⟩

theorem witness_HostActionsKeepTheMachineInvariant : State.reset.Inv ∧ (faultedState State.reset).Inv := by decide

theorem witness_FinishedRunNeverMovesAgain :
    (faultedState State.reset).runOver ∧ ((withVector false true).setRun .halted).runOver := by decide

theorem witness_LoadedImageReadsBack :
    ([0x11, 0x00, 0x03] : List Byte).length ≤ 65536 ∧ (List.replicate 65536 (0 : Byte)).length ≤ 65536 :=
  ⟨by decide, Nat.le_of_eq List.length_replicate⟩

/-- The effective addresses of R127, R128, R130 at a base that wraps and at the ends of the displacement. -/
theorem witness_StoresWriteTheEffectiveAddress :
    (0xFFFF : Word) = wordOf ((start (pairs 0 0 0xFFFF) 0).reg .r5) ((start (pairs 0 0 0xFFFF) 0).reg .r6) ∧
    (0x007E : Word) = wordOf ((start (pairs 0 0 0xFFFF) 0).reg .r5) ((start (pairs 0 0 0xFFFF) 0).reg .r6) +
      BitVec.ofInt 16 (0x7F : Byte).toInt ∧
    (0xFF80 : Word) = wordOf ((start (pairs 0 0 0) 0).reg .r5) ((start (pairs 0 0 0) 0).reg .r6) +
      BitVec.ofInt 16 (0x80 : Byte).toInt ∧
    (0x00FF : Word) = BitVec.ofNat 16 (0xFF : Byte).toNat := by decide +kernel

/-- Pairs that are not `SP`: the hypotheses of `LoadImmediateWord`, `CopyPair`, `WideArithmetic`, `PushAndPopPair` and
`PopPairUndoesPushPair`. -/
theorem witness_pair_operands : Pair.bc ≠ .sp ∧ Pair.de ≠ .sp ∧ Pair.hl ≠ .sp := by decide

theorem witness_SubtractionUndoesAddition : Reg.r0 ≠ .r7 := by decide

theorem witness_RelativeJumps :
    (0x0281 : Word) = State.reset.pc + 2 + BitVec.ofInt 16 (0x7F : Byte).toInt ∧
    (0x0182 : Word) = State.reset.pc + 2 + BitVec.ofInt 16 (0x80 : Byte).toInt := by decide

theorem witness_EnableTakesAPendingRequestAtOnce :
    ((withVector false true).aboutToFetch [0x02]).run = .running ∧
    ((withVector false true).aboutToFetch [0x02]).readByte ((withVector false true).aboutToFetch [0x02]).pc = 0x02 ∧
    ((withVector false true).aboutToFetch [0x02]).irqp = true := by decide +kernel

/-- An instruction that none of the frames excepts, and its next state: the hypotheses of
`OnlyInterruptControlWritesTheEnable`, `FlagMatrixIsRespected`, `SequentialInstructionsAdvanceByTheirLength`,
`PendingRequestIsHiddenFromInstructions` and `OnlyPortInstructionsReachThePorts`. -/
theorem witness_frames :
    exec (.ldi .r3 0x5A) State.reset = .next { State.reset with regs := ⟨0, 0, 0, 0x5A, 0, 0, 0, 0⟩, pc := 0x0203 } ∧
    (Instr.ldi .r3 0x5A).wellFormed = true ∧ (Instr.ldi .r3 0x5A).redirects = false ∧
    Instr.ldi .r3 0x5A ≠ .ei ∧ Instr.ldi .r3 0x5A ≠ .di ∧ Instr.ldi .r3 0x5A ≠ .reti ∧
    (Instr.ldi .r3 0x5A).flagsWritten = ⟨false, false, false, false⟩ ∧
    (∀ d p, Instr.ldi .r3 0x5A ≠ .inPort d p) ∧ (∀ r p, Instr.ldi .r3 0x5A ≠ .outPort r p) := by
  refine ⟨rfl, rfl, rfl, ?_⟩
  simp [Instr.flagsWritten]

theorem witness_MemoryWrittenOnlyByStores :
    exec (.stAbs .r0 0x0500) State.reset = .next { State.reset with mem := [(0x0500, 0)], pc := 0x0204 } ∧
    (0x04FF : Word) ∉ (Instr.stAbs .r0 0x0500).storedBytes State.reset ∧
    (0x0501 : Word) ∉ (Instr.stAbs .r0 0x0500).storedBytes State.reset :=
  ⟨eq_next_of_answers (by decide +kernel), by decide +kernel, by decide +kernel⟩

theorem witness_RegistersWrittenOnlyAsDestinations :
    exec (.inc16 .bc) State.reset = .next { State.reset with regs := ⟨0, 0, 1, 0, 0, 0, 0, 0⟩, pc := 0x0202 } ∧
    Reg.r0 ∉ (Instr.inc16 .bc).destRegs ∧ Reg.r3 ∉ (Instr.inc16 .bc).destRegs ∧ (Instr.inc16 .bc).writesSp = false :=
  ⟨eq_next_of_answers (by decide +kernel), by decide +kernel, by decide +kernel, by decide +kernel⟩

end Sys2Proof.Tests
end

section
/-! The opcode map of R90 and R91, and the step of a core whose fetched bytes are no instruction (R100, R302). -/

namespace Sys2Proof

/-! ### The illegal opcodes -/

/-- R90 lists the opcode bytes in order, in seven runs without a gap. -/
theorem opRows_opcodes :
    opRows.map (fun row => row.1.toNat) =
      List.range' 0x00 12 ++ List.range' 0x10 14 ++ List.range' 0x20 14 ++ List.range' 0x30 13 ++
        (List.range' 0x40 9 ++ List.range' 0x50 9) ++ List.range' 0x60 5 := rfl

/-- A byte is outside the opcode map exactly when no row is listed under its number. -/
theorem opMap_eq_none_iff_notMem (op : Byte) :
    opMap op = none ↔ op.toNat ∉ opRows.map (fun row => row.1.toNat) := by
  rw [opMap, List.lookup_eq_none_iff]
  simp only [bne_iff_ne, ne_eq, List.mem_map, not_exists, not_and, BitVec.toNat_inj, eq_comm (a := op)]

/-- The bytes outside the opcode map are those in the gaps between the runs of R90 (R91). -/
theorem opMap_eq_none_iff (op : Byte) : opMap op = none ↔ Machine.IllegalOpcodeByte op := by
  have hop : op.toNat < 256 := op.isLt
  rw [opMap_eq_none_iff_notMem, opRows_opcodes]
  simp only [List.mem_append, List.mem_range'_1]
  omega

/-- R91's count of its own ranges. -/
theorem illegalOpcodeBytes_length :
    ((List.range 256).filter fun n => decide (Machine.IllegalOpcodeByte (BitVec.ofNat 8 n))).length = 180 := by
  decide +kernel

end Sys2Proof

namespace Sys2Proof.Machine

/-! ### The fetch that finds no instruction -/

variable {s : State}

/-- Of an illegal opcode only the opcode byte is fetched, and it decodes to nothing else (R91). -/
theorem State.fetched_of_opMap_eq_none (h : opMap (s.readByte s.pc) = none) :
    s.fetched = .illegalOpcode (s.readByte s.pc) := by
  simp [State.fetched, State.fetchBytes, decode, h]

/-- The end of the step leaves a fault alone: a faulted core skips the interrupt check (R302). -/
@[simp] theorem State.raiseFault_finishStep (why : FaultReason) :
    (s.raiseFault why).finishStep = s.raiseFault why := rfl

/-- The statements' fault state is the machine's fault transition (R302). -/
theorem State.raiseFault_invalidOpcode : s.raiseFault .invalidOpcode = faultedState s := rfl

/-- Fetched bytes that are no instruction fault, whichever refusal the decoder gave (R86, R87, R91). -/
theorem execFetched_of_fetched_ne_instr (h : ∀ i rest, s.fetched ≠ .instr i rest) :
    execFetched s = .next (s.raiseFault .invalidOpcode) := by
  unfold execFetched
  split
  · next i rest hi => exact absurd hi (h i rest)
  all_goals rfl

/-- The step of a running core is the fetched instruction, then the end of the step (R100). -/
theorem step_of_execFetched_next {t : State} (hrun : s.run = .running) (h : execFetched s = .next t) :
    step s = .next t.finishStep := by
  simp [step, stepOnce, instructionPhase, hrun, h]

/-- A running core whose fetched bytes are no instruction takes the fault transition as its whole step (R302). -/
theorem step_of_fetched_ne_instr (hrun : s.run = .running) (h : ∀ i rest, s.fetched ≠ .instr i rest) :
    step s = .next (faultedState s) := by
  rw [step_of_execFetched_next hrun (execFetched_of_fetched_ne_instr h), State.raiseFault_finishStep,
    State.raiseFault_invalidOpcode]

/-- Settles O4: the gaps of the opcode map, their count, and the fault of a fetch that finds no instruction. -/
theorem illegalOpcodeFaults : Obligations.IllegalOpcodeFaults := by
  refine ⟨opMap_eq_none_iff, illegalOpcodeBytes_length, fun s hrun hop => ?_⟩
  have hfetch := State.fetched_of_opMap_eq_none ((opMap_eq_none_iff _).mpr hop)
  exact step_of_fetched_ne_instr hrun (by simp [hfetch])

end Sys2Proof.Machine
end

section
/-! Data movement (40_data_movement.md): the frames of the writes it is made of, the effective addresses as numbers, and what
a register write, a load, a store and a pair write that retire do. -/

namespace Sys2Proof.Machine

/-! ### The frame of each write -/

/-- A register write touches that register alone (R21). -/
theorem RegMemFrame.setReg (s : State) (d : Reg) (v : Byte) : RegMemFrame [d] [] s (s.setReg d v) where
  reg q hq := by
    have hne : q ≠ d := List.ne_of_not_mem_cons hq
    simp [hne]
  mem _ _ := rfl

/-- A store touches the byte at its address alone (R52). -/
theorem RegMemFrame.writeByte (s : State) (a : Word) (v : Byte) : RegMemFrame [] [a] s (s.writeByte a v) where
  reg _ _ := rfl
  mem b hb := by
    have hne : b ≠ a := List.ne_of_not_mem_cons hb
    simp [hne]

/-- The registers of a pair are its high and its low one (R22). -/
theorem pairRegs_eq {p : Pair} (hp : p ≠ .sp) : pairRegs p = [pairHigh p, pairLow p] := by
  cases p with
  | sp => exact absurd rfl hp
  | bc | de | hl => rfl

/-- A pair has two registers (R22). -/
theorem pairLow_ne_pairHigh (p : Pair) : pairLow p ≠ pairHigh p := by cases p <;> decide

/-- A pair write touches the pair's registers alone; for `SP` these are none (R22, R23). -/
theorem RegMemFrame.setPair (s : State) (p : Pair) (w : Word) : RegMemFrame (pairRegs p) [] s (s.setPair p w) where
  reg q hq := by
    by_cases hp : p = .sp
    · simp [hp]
    · rw [pairRegs_eq hp, List.mem_cons, List.mem_singleton, not_or] at hq
      obtain ⟨hhigh, hlow⟩ := hq
      rw [State.setPair_reg s p w q hp, if_neg hhigh, if_neg hlow]
  mem _ _ := State.setPair_readByte ..

theorem ControlSame.setReg (s : State) (d : Reg) (v : Byte) : ControlSame s (s.setReg d v) := ⟨rfl, rfl, rfl, rfl, rfl⟩

theorem ControlSame.writeByte (s : State) (a : Word) (v : Byte) : ControlSame s (s.writeByte a v) :=
  ⟨rfl, rfl, rfl, rfl, rfl⟩

theorem ControlSame.setPair (s : State) (p : Pair) (w : Word) : ControlSame s (s.setPair p w) := by
  constructor <;> simp

/-! ### The frame of a retired instruction -/

section Advance

variable {s t : State} {regs : List Reg} {bytes : List Word} {len : Nat}

/-- The update of `PC` touches no register and no byte of memory. -/
theorem RegMemFrame.advance (h : RegMemFrame regs bytes s t) : RegMemFrame regs bytes s (t.advance len) := ⟨h.reg, h.mem⟩

/-- The update of `PC` touches no control state. -/
theorem ControlSame.advance (h : ControlSame s t) : ControlSame s (t.advance len) :=
  ⟨h.ie, h.irqp, h.run, h.faultReason, h.ports⟩

/-- Effects that leave `PC` alone leave it to the retirement, which moves it past the instruction (R26). -/
theorem Advanced.of_pc_eq (h : t.pc = s.pc) : Advanced len s (t.advance len) := by
  simp [Advanced, State.npc, h]

/-- Register effects that retire are the whole of a register instruction. -/
theorem RegisterOnly.advance (hframe : RegMemFrame regs [] s t) (hsp : t.sp = s.sp) (hcontrol : ControlSame s t)
    (hpc : t.pc = s.pc) : RegisterOnly regs len s (t.advance len) :=
  ⟨hframe.advance, hsp, hcontrol.advance, .of_pc_eq hpc⟩

end Advance

/-! ### Effective addresses as numbers (R97 to R99) -/

theorem MemOperand.address_direct (a : Word) (s : State) : (direct a).address s = a := rfl

theorem MemOperand.address_zeroPage (zp : Byte) (s : State) :
    (zeroPage zp).address s = BitVec.ofNat 16 zp.toNat :=
  (BitVec.ofNat_toNat 16 zp).symm

theorem MemOperand.address_indirect (s : State) : indirect.address s = wordOf (s.reg .r5) (s.reg .r6) := rfl

theorem MemOperand.address_indexed (disp : Byte) (s : State) :
    (indexed disp).address s = wordOf (s.reg .r5) (s.reg .r6) + BitVec.ofInt 16 disp.toInt := rfl

/-! ### What the shared shapes do -/

section Effects

variable {s : State} {m : MemOperand} {ea : Word}

/-- A register write that retires. -/
theorem retire_setReg_effect (d : Reg) (v : Byte) (len : Nat) (s : State) :
    ∃ t, retire len (s.setReg d v) = .next t ∧ t.reg d = v ∧ t.flags = s.flags ∧ RegisterOnly [d] len s t :=
  ⟨_, rfl, by simp, rfl, .advance (.setReg s d v) rfl (.setReg s d v) rfl⟩

/-- A load reads the byte at the address its operand has before the register is written (R124). -/
theorem loadReg_effect (d : Reg) (len : Nat) (hea : m.address s = ea) :
    ∃ t, loadReg d m len s = .next t ∧ t.reg d = s.readByte ea ∧ t.flags = s.flags ∧ RegisterOnly [d] len s t :=
  hea ▸ retire_setReg_effect d (s.readByte (m.address s)) len s

/-- A store writes the byte at its operand's address. -/
theorem storeReg_effect (r : Reg) (len : Nat) (hea : m.address s = ea) :
    ∃ t, storeReg r m len s = .next t ∧ t.readByte ea = s.reg r ∧ RegMemFrame [] [ea] s t ∧ t.sp = s.sp ∧
      t.flags = s.flags ∧ ControlSame s t ∧ Advanced len s t := by
  subst hea
  exact ⟨_, rfl, by simp, (RegMemFrame.writeByte ..).advance, rfl, rfl, (ControlSame.writeByte ..).advance,
    .of_pc_eq rfl⟩

/-- After a pair write the high register holds the high byte and the low register the low byte (R22, R131). -/
theorem retire_setPair_effect {p : Pair} (hp : p ≠ .sp) (w : Word) (len : Nat) (s : State) :
    ∃ t, retire len (s.setPair p w) = .next t ∧ t.reg (pairHigh p) = hiByte w ∧ t.reg (pairLow p) = loByte w ∧
      t.flags = s.flags ∧ RegisterOnly (pairRegs p) len s t := by
  have hreg (q : Reg) := State.setPair_reg s p w q hp
  have hsp := State.setPair_sp_of_ne s p w hp
  exact ⟨_, rfl, by simp [hreg], by simp [hreg, pairLow_ne_pairHigh], by simp,
    .advance (.setPair s p w) hsp (.setPair s p w) (State.setPair_pc s p w)⟩

/-- With pair code 3 a pair write is a write of `SP` (R23, R131). -/
theorem retire_setPair_sp_effect (w : Word) (len : Nat) (s : State) :
    ∃ t, retire len (s.setPair .sp w) = .next t ∧ t.sp = w ∧ RegMemFrame [] [] s t ∧ t.flags = s.flags ∧
      ControlSame s t ∧ Advanced len s t :=
  ⟨_, rfl, rfl, (RegMemFrame.setPair s .sp w).advance, rfl, (ControlSame.setPair s .sp w).advance, .of_pc_eq rfl⟩

end Effects

/-! ### The statements -/

/-- Settles O25: each mode of `ST`, and `STZ`, is the shared store at that mode's effective address. -/
theorem storesWriteTheEffectiveAddress : Obligations.StoresWriteTheEffectiveAddress := by
  refine ⟨fun r a s => ⟨rfl, ?direct⟩, fun r s ea => ⟨rfl, ?indirect⟩, fun r disp s ea => ⟨rfl, ?indexed⟩,
    fun r zp s ea => ⟨rfl, ?zeroPage⟩⟩
  case direct => exact storeReg_effect r 4 (MemOperand.address_direct a s)
  case indirect => rintro rfl; exact storeReg_effect r 2 (MemOperand.address_indirect s)
  case indexed => rintro rfl; exact storeReg_effect r 3 (MemOperand.address_indexed disp s)
  case zeroPage => rintro rfl; exact storeReg_effect r 3 (MemOperand.address_zeroPage zp s)

/-- Settles O23: `MOV` and `LDI` are one register write each. -/
theorem moveAndLoadImmediate : Obligations.MoveAndLoadImmediate :=
  ⟨fun d r s => ⟨rfl, retire_setReg_effect d (s.reg r) 2 s⟩, fun d imm s => ⟨rfl, retire_setReg_effect d imm 3 s⟩⟩

/-- Settles O24: each mode of `LD`, and `LDZ`, is the shared load at that mode's effective address. -/
theorem loadsReadTheEffectiveAddress : Obligations.LoadsReadTheEffectiveAddress :=
  ⟨fun d a s => ⟨rfl, loadReg_effect d 4 (MemOperand.address_direct a s)⟩,
    fun d s => ⟨rfl, loadReg_effect d 2 (MemOperand.address_indirect s)⟩,
    fun d disp s => ⟨rfl, loadReg_effect d 3 (MemOperand.address_indexed disp s)⟩,
    fun d zp s => ⟨rfl, loadReg_effect d 3 (MemOperand.address_zeroPage zp s)⟩⟩

/-- Settles O26: `LDI16` is a pair write, to two registers or to `SP`. -/
theorem loadImmediateWord : Obligations.LoadImmediateWord :=
  ⟨fun _ _ => rfl, fun _ imm s hp => retire_setPair_effect hp imm 4 s, fun imm s => retire_setPair_sp_effect imm 4 s⟩

end Sys2Proof.Machine
end

section
/-! 8-bit arithmetic and logic (41_alu_arith_logic.md): the ALU's transforms as numbers and flags, and what an instruction that
writes an ALU result, or its flags alone, does. -/

namespace Sys2Proof.Machine

/-! ### The transforms (R150 to R157) -/

/-- Every transform takes `Z` and `S` from its result (R150). -/
theorem ZeroSign.aluResult (r : Byte) (o c : Bool) : ZeroSign r (aluResult r o c).flags where
  zero := decide_eq_true_iff
  sign := by
    have hmsb : r.msb = true ↔ 2 ^ 8 ≤ 2 * r.toNat := BitVec.msb_eq_true_iff_two_mul_ge
    exact hmsb.trans (by omega)

/-- `add8` is the sum with its carry and its overflow (R151, R152). -/
theorem IsSum.add8 (a b : Byte) (cin : Bool) : IsSum a b cin (add8 a b cin).value (add8 a b cin).flags where
  value := BitVec.toNat_ofNat ..
  carry := decide_eq_true_iff
  overflow := decide_eq_true_iff
  zeroSign := .aluResult ..

/-- `sub8` is the difference with its borrow and its overflow (R153, R154). -/
theorem IsDifference.sub8 (a b : Byte) (bin : Bool) :
    IsDifference a b bin (sub8 a b bin).value (sub8 a b bin).flags where
  value := by
    have hnonneg : 0 ≤ ((a.toNat : Int) - b.toNat - bin.toNat) % 256 := Int.emod_nonneg _ (by decide)
    exact (congrArg Nat.cast (BitVec.toNat_ofInt ..)).trans (Int.toNat_of_nonneg hnonneg)
  borrow := decide_eq_true_iff.trans (by omega)
  overflow := decide_eq_true_iff
  zeroSign := .aluResult ..

/-- With no borrow in, the integer difference modulo 256 is the difference of bytes. -/
theorem sub8_value (a b : Byte) : (sub8 a b false).value = a - b := by
  have hvalue := (IsDifference.sub8 a b false).value
  rw [Bool.toNat_false] at hvalue
  bv_omega

theorem inc8_value_toNat (a : Byte) (f : Flags) : (inc8 a f).value.toNat = (a.toNat + 1) % 256 := BitVec.toNat_add a 1

/-- To subtract 1 modulo 256 is to add 255 (R156). -/
theorem dec8_value_toNat (a : Byte) (f : Flags) : (dec8 a f).value.toNat = (a.toNat + 255) % 256 :=
  (BitVec.toNat_sub a 1).trans (congrArg (· % 256) (Nat.add_comm 255 a.toNat))

/-- A logic result clears `C` and `O` (R157). -/
theorem LogicFlags.logic8 (r : Byte) : LogicFlags r (logic8 r).flags := ⟨.aluResult .., rfl, rfl⟩

/-! ### What the shared shapes do -/

/-- A register and all four flags written by an instruction that retires. -/
theorem writeAlu_effect (d : Reg) (res : AluResult) (len : Nat) (s : State) :
    ∃ t, writeAlu d res len s = .next t ∧ t.reg d = res.value ∧ t.flags = res.flags ∧ RegisterOnly [d] len s t := by
  have hframe : RegMemFrame [d] [] s ((s.setReg d res.value).setFlags res.flags) :=
    ⟨(RegMemFrame.setReg ..).reg, fun _ _ => rfl⟩
  exact ⟨_, rfl, by simp, rfl, .advance hframe rfl ⟨rfl, rfl, rfl, rfl, rfl⟩ rfl⟩

/-- The four flags written by an instruction that retires. -/
theorem compareAlu_effect (res : AluResult) (len : Nat) (s : State) :
    ∃ t, compareAlu res len s = .next t ∧ t.flags = res.flags ∧ RegisterOnly [] len s t :=
  ⟨_, rfl, rfl, .advance ⟨fun _ _ => rfl, fun _ _ => rfl⟩ rfl ⟨rfl, rfl, rfl, rfl, rfl⟩ rfl⟩

theorem writeAlu_add8_effect (d : Reg) (a b : Byte) (cin : Bool) (len : Nat) (s : State) :
    ∃ t, writeAlu d (add8 a b cin) len s = .next t ∧ IsSum a b cin (t.reg d) t.flags ∧ RegisterOnly [d] len s t := by
  obtain ⟨t, hnext, hvalue, hflags, honly⟩ := writeAlu_effect d (add8 a b cin) len s
  exact ⟨t, hnext, hvalue ▸ hflags ▸ .add8 a b cin, honly⟩

theorem writeAlu_sub8_effect (d : Reg) (a b : Byte) (bin : Bool) (len : Nat) (s : State) :
    ∃ t, writeAlu d (sub8 a b bin) len s = .next t ∧ IsDifference a b bin (t.reg d) t.flags ∧
      RegisterOnly [d] len s t := by
  obtain ⟨t, hnext, hvalue, hflags, honly⟩ := writeAlu_effect d (sub8 a b bin) len s
  exact ⟨t, hnext, hvalue ▸ hflags ▸ .sub8 a b bin, honly⟩

/-- A compare gives the flags of a subtraction with no borrow in, and discards the difference (R164). -/
theorem compareAlu_sub8_effect (a b : Byte) (len : Nat) (s : State) :
    ∃ t, compareAlu (sub8 a b false) len s = .next t ∧ IsDifference a b false (a - b) t.flags ∧
      RegisterOnly [] len s t := by
  obtain ⟨t, hnext, hflags, honly⟩ := compareAlu_effect (sub8 a b false) len s
  exact ⟨t, hnext, sub8_value a b ▸ hflags ▸ .sub8 a b false, honly⟩

theorem writeAlu_logic8_effect (d : Reg) (v : Byte) (len : Nat) (s : State) :
    ∃ t, writeAlu d (logic8 v) len s = .next t ∧ t.reg d = v ∧ LogicFlags (t.reg d) t.flags ∧
      RegisterOnly [d] len s t := by
  obtain ⟨t, hnext, hvalue, hflags, honly⟩ := writeAlu_effect d (logic8 v) len s
  exact ⟨t, hnext, hvalue, hvalue ▸ hflags ▸ .logic8 v, honly⟩

/-- A logic instruction of two operands acts on each bit position alone. -/
theorem writeAlu_logic8_bitwise {op : Bool → Bool → Bool} {a b v : Byte}
    (hbits : ∀ k, v.getLsbD k = op (a.getLsbD k) (b.getLsbD k)) (d : Reg) (len : Nat) (s : State) :
    ∃ t, writeAlu d (logic8 v) len s = .next t ∧ (∀ k, (t.reg d).getLsbD k = op (a.getLsbD k) (b.getLsbD k)) ∧
      LogicFlags (t.reg d) t.flags ∧ RegisterOnly [d] len s t := by
  obtain ⟨t, hnext, hvalue, hlogic, honly⟩ := writeAlu_logic8_effect d v len s
  exact ⟨t, hnext, hvalue ▸ hbits, hlogic, honly⟩

/-- The complement of a byte is 255 less the byte (R177). -/
theorem writeAlu_logic8_complement (d : Reg) (a : Byte) (len : Nat) (s : State) :
    ∃ t, writeAlu d (logic8 (~~~ a)) len s = .next t ∧ (t.reg d).toNat = 255 - a.toNat ∧ LogicFlags (t.reg d) t.flags ∧
      RegisterOnly [d] len s t := by
  obtain ⟨t, hnext, hvalue, hlogic, honly⟩ := writeAlu_logic8_effect d (~~~ a) len s
  exact ⟨t, hnext, hvalue ▸ BitVec.toNat_not, hlogic, honly⟩

/-! ### The statements -/

/-- Settles O29: `ADD`, `ADC` and `ADDI` write the result of `add8`. -/
theorem additionInstructions : Obligations.AdditionInstructions :=
  ⟨fun d r s => ⟨rfl, writeAlu_add8_effect d (s.reg d) (s.reg r) false 2 s⟩,
    fun d r s => ⟨rfl, writeAlu_add8_effect d (s.reg d) (s.reg r) s.flags.c 2 s⟩,
    fun d imm s => ⟨rfl, writeAlu_add8_effect d (s.reg d) imm false 3 s⟩⟩

/-- Settles O30: `SUB`, `SBC`, `SUBI` and `NEG` write the result of `sub8`. -/
theorem subtractionInstructions : Obligations.SubtractionInstructions :=
  ⟨fun d r s => ⟨rfl, writeAlu_sub8_effect d (s.reg d) (s.reg r) false 2 s⟩,
    fun d r s => ⟨rfl, writeAlu_sub8_effect d (s.reg d) (s.reg r) s.flags.c 2 s⟩,
    fun d imm s => ⟨rfl, writeAlu_sub8_effect d (s.reg d) imm false 3 s⟩,
    fun d s => ⟨rfl, writeAlu_sub8_effect d 0 (s.reg d) false 2 s⟩⟩

/-- Settles O31: `CMP` and `CMPI` keep the flags of `sub8` alone. -/
theorem compareInstructions : Obligations.CompareInstructions :=
  ⟨fun d r s => ⟨rfl, compareAlu_sub8_effect (s.reg d) (s.reg r) 2 s⟩,
    fun d imm s => ⟨rfl, compareAlu_sub8_effect (s.reg d) imm 3 s⟩⟩

/-- Settles O32: the register and the immediate forms act bit by bit, and `NOT` complements to 255. -/
theorem logicInstructions : Obligations.LogicInstructions :=
  ⟨fun d _ s => ⟨rfl, writeAlu_logic8_bitwise (op := and) (fun _ => BitVec.getLsbD_and) d 2 s⟩,
    fun d _ s => ⟨rfl, writeAlu_logic8_bitwise (op := or) (fun _ => BitVec.getLsbD_or) d 2 s⟩,
    fun d _ s => ⟨rfl, writeAlu_logic8_bitwise (op := xor) (fun _ => BitVec.getLsbD_xor) d 2 s⟩,
    fun d _ s => ⟨rfl, writeAlu_logic8_bitwise (op := and) (fun _ => BitVec.getLsbD_and) d 3 s⟩,
    fun d _ s => ⟨rfl, writeAlu_logic8_bitwise (op := or) (fun _ => BitVec.getLsbD_or) d 3 s⟩,
    fun d _ s => ⟨rfl, writeAlu_logic8_bitwise (op := xor) (fun _ => BitVec.getLsbD_xor) d 3 s⟩,
    fun d s => ⟨rfl, writeAlu_logic8_complement d (s.reg d) 2 s⟩⟩

/-- Settles O33: `INC` and `DEC` write the results of `inc8` and `dec8`, whose carry is the one before (R156). -/
theorem incrementAndDecrement : Obligations.IncrementAndDecrement := by
  refine ⟨fun d s => ⟨rfl, ?inc⟩, fun d s => ⟨rfl, ?dec⟩⟩
  case inc =>
    obtain ⟨t, hnext, hvalue, hflags, honly⟩ := writeAlu_effect d (inc8 (s.reg d) s.flags) 2 s
    exact ⟨t, hnext, hvalue ▸ inc8_value_toNat (s.reg d) s.flags, hvalue ▸ hflags ▸ .aluResult ..,
      hflags ▸ decide_eq_true_iff, hflags ▸ rfl, honly⟩
  case dec =>
    obtain ⟨t, hnext, hvalue, hflags, honly⟩ := writeAlu_effect d (dec8 (s.reg d) s.flags) 2 s
    exact ⟨t, hnext, hvalue ▸ dec8_value_toNat (s.reg d) s.flags, hvalue ▸ hflags ▸ .aluResult ..,
      hflags ▸ decide_eq_true_iff, hflags ▸ rfl, honly⟩

end Sys2Proof.Machine
end

section
/-! Rotates and `SWAP` (42_alu_shift_rotate_16bit.md section 1): a byte put together from two bit fields as a number, and with it
the transforms as numbers and flags. -/

namespace Sys2Proof.Machine

/-! ### Bit fields as numbers -/

/-- Two bit fields side by side weigh the upper one by the width of the lower. -/
theorem toNat_append_eq_mul_add {m n : Nat} (x : BitVec m) (y : BitVec n) :
    (x ++ y).toNat = x.toNat * 2 ^ n + y.toNat := by
  rw [BitVec.toNat_append, ← Nat.shiftLeft_add_eq_or_of_lt y.isLt, Nat.shiftLeft_eq]

theorem toNat_getLsbD {n : Nat} (x : BitVec n) (i : Nat) : (x.getLsbD i).toNat = x.toNat / 2 ^ i % 2 := by
  rw [← BitVec.testBit_toNat, Nat.toNat_testBit]

theorem toNat_extractLsb'_eq_div_mod {n : Nat} (x : BitVec n) (start len : Nat) :
    (x.extractLsb' start len).toNat = x.toNat / 2 ^ start % 2 ^ len := by
  rw [BitVec.extractLsb'_toNat, Nat.shiftRight_eq_div_pow]

/-! ### The transforms (R200, R204 to R206) -/

/-- A shift or rotate puts the bit shifted out in `C` and leaves `O` (R200). -/
theorem ShiftFlags.shifted (r : Byte) (out : Bool) (f : Flags) : ShiftFlags r out f (shifted r out f).flags :=
  ⟨.aluResult .., rfl, rfl⟩

/-- `ROL` takes `C` in below the low seven bits of the byte (R204). -/
theorem rol8_value_toNat (a : Byte) (f : Flags) : (rol8 a f).value.toNat = 2 * (a.toNat % 128) + f.c.toNat := by
  calc (rol8 a f).value.toNat
    _ = (a.extractLsb' 0 7).toNat * 2 ^ 1 + (BitVec.ofBool f.c).toNat := toNat_append_eq_mul_add ..
    _ = a.toNat / 2 ^ 0 % 2 ^ 7 * 2 ^ 1 + f.c.toNat := by rw [toNat_extractLsb'_eq_div_mod, BitVec.toNat_ofBool]
    _ = 2 * (a.toNat % 128) + f.c.toNat := by omega

/-- `ROR` takes `C` in above the high seven bits of the byte (R205). -/
theorem ror8_value_toNat (a : Byte) (f : Flags) : (ror8 a f).value.toNat = 128 * f.c.toNat + a.toNat / 2 := by
  have hbyte : a.toNat < 256 := a.isLt
  calc (ror8 a f).value.toNat
    _ = (BitVec.ofBool f.c).toNat * 2 ^ 7 + (a.extractLsb' 1 7).toNat := toNat_append_eq_mul_add ..
    _ = f.c.toNat * 2 ^ 7 + a.toNat / 2 ^ 1 % 2 ^ 7 := by rw [toNat_extractLsb'_eq_div_mod, BitVec.toNat_ofBool]
    _ = 128 * f.c.toNat + a.toNat / 2 := by omega

/-- `SWAP` puts the low nibble above the high one (R206). -/
theorem swap8_value_toNat (a : Byte) (f : Flags) : (swap8 a f).value.toNat = 16 * (a.toNat % 16) + a.toNat / 16 := by
  have hbyte : a.toNat < 256 := a.isLt
  calc (swap8 a f).value.toNat
    _ = (a.extractLsb' 0 4).toNat * 2 ^ 4 + (a.extractLsb' 4 4).toNat := toNat_append_eq_mul_add ..
    _ = a.toNat / 2 ^ 0 % 2 ^ 4 * 2 ^ 4 + a.toNat / 2 ^ 4 % 2 ^ 4 := by simp only [toNat_extractLsb'_eq_div_mod]
    _ = 16 * (a.toNat % 16) + a.toNat / 16 := by omega

/-- `ROL` turns the nine bits of `C` and the byte to the left: bit 7 leaves to `C` as `C` enters at bit 0 (R204). -/
theorem rol8_nine_bits (a : Byte) (f : Flags) :
    256 * (rol8 a f).flags.c.toNat + (rol8 a f).value.toNat = 2 * a.toNat + f.c.toNat := by
  have hbyte : a.toNat < 256 := a.isLt
  have hout : (rol8 a f).flags.c.toNat = a.toNat / 128 % 2 := toNat_getLsbD a 7
  have hvalue := rol8_value_toNat a f
  omega

/-- `ROR` turns them to the right: bit 0 leaves to `C` as `C` enters at bit 7 (R205, D27). -/
theorem ror8_nine_bits (a : Byte) (f : Flags) :
    2 * (ror8 a f).value.toNat + (ror8 a f).flags.c.toNat = 256 * f.c.toNat + a.toNat := by
  have hout : (ror8 a f).flags.c.toNat = a.toNat / 1 % 2 := toNat_getLsbD a 0
  have hvalue := ror8_value_toNat a f
  omega

/-! ### The statement -/

/-- Settles O39: the rotates by their 9-bit equations, `SWAP` by its nibbles. -/
theorem rotateAndSwapInstructions : Obligations.RotateAndSwapInstructions := by
  refine ⟨fun d s => ⟨rfl, ?rol⟩, fun d s => ⟨rfl, ?ror⟩, fun d s => ⟨rfl, ?swap⟩⟩
  case rol =>
    obtain ⟨t, hnext, hvalue, hflags, honly⟩ := writeAlu_effect d (rol8 (s.reg d) s.flags) 2 s
    exact ⟨t, hnext, hvalue ▸ hflags ▸ rol8_nine_bits (s.reg d) s.flags, hvalue ▸ hflags ▸ .shifted .., honly⟩
  case ror =>
    obtain ⟨t, hnext, hvalue, hflags, honly⟩ := writeAlu_effect d (ror8 (s.reg d) s.flags) 2 s
    exact ⟨t, hnext, hvalue ▸ hflags ▸ ror8_nine_bits (s.reg d) s.flags, hvalue ▸ hflags ▸ .shifted .., honly⟩
  case swap =>
    obtain ⟨t, hnext, hvalue, hflags, honly⟩ := writeAlu_effect d (swap8 (s.reg d) s.flags) 2 s
    exact ⟨t, hnext, hvalue ▸ swap8_value_toNat (s.reg d) s.flags, hvalue ▸ hflags ▸ .aluResult ..,
      hflags ▸ rfl, hflags ▸ rfl, honly⟩

end Sys2Proof.Machine
end

section
/-! Control transfer (43_control_flow.md): what a conditional jump does, and the effects of the 16-bit push and pop that `CALL`
and the returns are made of. -/

namespace Sys2Proof.Machine

/-! ### Conditional jumps (R220, R221) -/

/-- A jump writes `PC` alone: its target when what its predicate says of the flags is so, else the address after it. -/
theorem jumpIf_eq_next {cond : Cond} {s : State} {P : Prop} [Decidable P] (hcond : cond.holds s.flags = true ↔ P)
    (target : Word) (len : Nat) :
    jumpIf cond target len s = .next { s with pc := if P then target else s.npc len } := by
  by_cases hP : P
  · simp [jumpIf, State.setPc, hP, hcond.mpr hP]
  · simp [jumpIf, State.setPc, hP, mt hcond.mp hP]

/-! ### The 16-bit push and pop (R62, R63) -/

section Stack

variable {s t : State} {regs : List Reg} {bytes : List Word}

/-- A write of `PC` touches no register and no byte of memory. -/
theorem RegMemFrame.setPc (h : RegMemFrame regs bytes s t) (w : Word) : RegMemFrame regs bytes s (t.setPc w) :=
  ⟨h.reg, h.mem⟩

/-- A write of `PC` touches no control state. -/
theorem ControlSame.setPc (h : ControlSame s t) (w : Word) : ControlSame s (t.setPc w) :=
  ⟨h.ie, h.irqp, h.run, h.faultReason, h.ports⟩

/-- Two decrements of a word lower it by 2. -/
theorem sub_one_sub_one (w : Word) : w - 1 - 1 = w - 2 := by bv_omega

/-- Two increments of a word raise it by 2. -/
theorem add_one_add_one (w : Word) : w + 1 + 1 = w + 2 := by bv_omega

/-- Memory after `push16`, by distance from the old `SP` (R62). -/
theorem push16_readByte_below (s : State) (w b : Word) :
    (s.push16 w).readByte b =
      if b = s.sp - 2 then loByte w else if b = s.sp - 1 then hiByte w else s.readByte b :=
  sub_one_sub_one s.sp ▸ State.push16_readByte s w b

/-- A push of a word touches the two bytes below `SP` alone (R62). -/
theorem RegMemFrame.push16 (s : State) (w : Word) : RegMemFrame [] [s.sp - 1, s.sp - 2] s (s.push16 w) where
  reg _ _ := rfl
  mem b hb := by
    rw [List.mem_cons, List.mem_singleton, not_or] at hb
    obtain ⟨hhigh, hlow⟩ := hb
    rw [push16_readByte_below, if_neg hlow, if_neg hhigh]

/-- A pushed word lies below the old `SP`, its high byte above its low byte (R62). -/
theorem push16_effect (s : State) (w : Word) :
    (s.push16 w).sp = s.sp - 2 ∧ (s.push16 w).readByte (s.sp - 1) = hiByte w ∧
      (s.push16 w).readByte (s.sp - 2) = loByte w ∧ RegMemFrame [] [s.sp - 1, s.sp - 2] s (s.push16 w) ∧
      (s.push16 w).flags = s.flags ∧ ControlSame s (s.push16 w) := by
  have hne : s.sp - 1 ≠ s.sp - 2 := by bv_omega
  have hhigh : (s.push16 w).readByte (s.sp - 1) = hiByte w := by
    rw [push16_readByte_below, if_neg hne, if_pos rfl]
  have hlow : (s.push16 w).readByte (s.sp - 2) = loByte w := by rw [push16_readByte_below, if_pos rfl]
  exact ⟨sub_one_sub_one s.sp, hhigh, hlow, .push16 s w, rfl, ⟨rfl, rfl, rfl, rfl, rfl⟩⟩

/-- A pop of a word moves `SP` alone: the bytes stay in memory (R61, R63). -/
theorem drop16_effect (s : State) :
    s.drop16.sp = s.sp + 2 ∧ RegMemFrame [] [] s s.drop16 ∧ s.drop16.flags = s.flags ∧ ControlSame s s.drop16 :=
  ⟨add_one_add_one s.sp, ⟨fun _ _ => rfl, fun _ _ => rfl⟩, rfl, ⟨rfl, rfl, rfl, rfl, rfl⟩⟩

end Stack

/-! ### The statements -/

/-- Settles O44: `CALL` pushes the address after its 3 bytes and then writes `PC`. -/
theorem callPushesTheReturnAddress : Obligations.CallPushesTheReturnAddress := by
  intro a s
  obtain ⟨hsp, hhigh, hlow, hframe, hflags, hcontrol⟩ := push16_effect s (s.npc 3)
  exact ⟨rfl, (s.push16 (s.npc 3)).setPc a, rfl, rfl, hsp, hhigh, hlow, hframe.setPc a, hflags, hcontrol.setPc a⟩

/-- Settles O42: each conditional jump is `jumpIf` with the predicate of one flag; `JMP`'s predicate is always true. -/
theorem absoluteJumps : Obligations.AbsoluteJumps :=
  ⟨fun _ => ⟨rfl, rfl, rfl, rfl, rfl, rfl, rfl, rfl, rfl, rfl⟩, fun a s =>
    ⟨jumpIf_eq_next (cond := .always) (P := True) (iff_of_true rfl trivial) a 3,
      jumpIf_eq_next (cond := .z) Iff.rfl a 3, jumpIf_eq_next (cond := .nz) (Bool.not_eq_true' s.flags.z).to_iff a 3,
      jumpIf_eq_next (cond := .c) Iff.rfl a 3, jumpIf_eq_next (cond := .nc) (Bool.not_eq_true' s.flags.c).to_iff a 3,
      jumpIf_eq_next (cond := .s) Iff.rfl a 3, jumpIf_eq_next (cond := .ns) (Bool.not_eq_true' s.flags.s).to_iff a 3,
      jumpIf_eq_next (cond := .o) Iff.rfl a 3, jumpIf_eq_next (cond := .no) (Bool.not_eq_true' s.flags.o).to_iff a 3,
      rfl⟩⟩

/-- Settles O45: both returns write to `PC` the word that `pop16` reads (R63); the write of `IE` by `RETI` is the one
difference. -/
theorem returnsPopTheProgramCounter : Obligations.ReturnsPopTheProgramCounter := by
  refine ⟨fun s => ⟨rfl, ?ret⟩, fun s => ⟨rfl, ?reti⟩⟩
  case ret =>
    obtain ⟨hsp, hframe, hflags, hcontrol⟩ := drop16_effect s
    exact ⟨s.drop16.setPc s.top16, rfl, s.top16_eq, hsp, hframe.setPc s.top16, hflags, hcontrol.setPc s.top16⟩
  case reti =>
    obtain ⟨hsp, hframe, hflags, hcontrol⟩ := drop16_effect s
    exact ⟨s.returnFromInterrupt, rfl, s.top16_eq, hsp, rfl, ⟨hframe.reg, hframe.mem⟩, hflags, hcontrol.irqp,
      hcontrol.run, hcontrol.faultReason, hcontrol.ports⟩

end Sys2Proof.Machine
end

section
/-! The byte stack (44_stack.md): the frames of a pushed and of a popped byte, and the effects of the two when they retire. -/

namespace Sys2Proof.Machine

/-! ### The 8-bit push and pop (R60, R61) -/

/-- A push of a byte touches the byte below `SP` alone: it is a store at the new `SP` (R60). -/
theorem RegMemFrame.push8 (s : State) (v : Byte) : RegMemFrame [] [s.sp - 1] s (s.push8 v) :=
  have hstore := RegMemFrame.writeByte (s.setSp (s.sp - 1)) (s.sp - 1) v
  ⟨hstore.reg, hstore.mem⟩

theorem ControlSame.push8 (s : State) (v : Byte) : ControlSame s (s.push8 v) := ⟨rfl, rfl, rfl, rfl, rfl⟩

/-- A pop of a byte into a register touches that register alone: the byte stays in memory (R61). -/
theorem RegMemFrame.drop8_setReg (s : State) (d : Reg) (v : Byte) : RegMemFrame [d] [] s (s.drop8.setReg d v) :=
  have hwrite := RegMemFrame.setReg s.drop8 d v
  ⟨hwrite.reg, hwrite.mem⟩

theorem ControlSame.drop8_setReg (s : State) (d : Reg) (v : Byte) : ControlSame s (s.drop8.setReg d v) :=
  ⟨rfl, rfl, rfl, rfl, rfl⟩

/-- A pushed byte lies at the new `SP`, one below the old one, which wraps from 0 to 65535 (R60). -/
theorem retire_push8_effect (v : Byte) (len : Nat) (s : State) :
    ∃ t, retire len (s.push8 v) = .next t ∧ t.sp = s.sp - 1 ∧ t.readByte (s.sp - 1) = v ∧
      RegMemFrame [] [s.sp - 1] s t ∧ t.flags = s.flags ∧ ControlSame s t ∧ Advanced len s t :=
  ⟨_, rfl, rfl, by simp, (RegMemFrame.push8 s v).advance, rfl, (ControlSame.push8 s v).advance, .of_pc_eq rfl⟩

/-- A popped byte is read at the old `SP`, before the increment (R61). -/
theorem retire_pop8_effect (d : Reg) (len : Nat) (s : State) :
    ∃ t, retire len (s.drop8.setReg d s.top8) = .next t ∧ t.reg d = s.readByte s.sp ∧ t.sp = s.sp + 1 ∧
      RegMemFrame [d] [] s t ∧ t.flags = s.flags ∧ ControlSame s t ∧ Advanced len s t := by
  have hvalue : (s.drop8.setReg d s.top8).reg d = s.top8 := by rw [State.setReg_reg, if_pos rfl]
  exact ⟨_, rfl, hvalue, rfl, (RegMemFrame.drop8_setReg s d s.top8).advance, rfl,
    (ControlSame.drop8_setReg s d s.top8).advance, .of_pc_eq rfl⟩

/-! ### The statement -/

/-- Settles O47: `PUSH` is a push of the register's byte, `POP` a pop into the register. -/
theorem pushAndPopByte : Obligations.PushAndPopByte :=
  ⟨fun r s => ⟨rfl, retire_push8_effect (s.reg r) 2 s⟩, fun d s => ⟨rfl, retire_pop8_effect d 2 s⟩⟩

end Sys2Proof.Machine
end

section
/-! Faults and the interrupt check (60_exceptions.md): what an instruction can do to `RUN`, and how a step is made of its
instruction part and its end. -/

namespace Sys2Proof.Machine

/-! ### What an instruction does to `RUN` -/

/-- A pair instruction whose effect keeps `RUN` keeps it or, naming `SP`, takes the fault transition (R87). -/
theorem withRegisterPairs_keeps_run_or_faults {s t : State} (ps : List Pair) (h : t.run = s.run) :
    ∃ u, withRegisterPairs ps s (.next t) = .next u ∧ (u.run = s.run ∨ u = s.raiseFault .invalidOpcode) := by
  by_cases hsp : Pair.sp ∈ ps
  · exact ⟨s.raiseFault .invalidOpcode, if_pos hsp, .inr rfl⟩
  · exact ⟨t, if_neg hsp, .inl h⟩

/-- No instruction but `HLT` writes `RUN`; the pair instructions alone can take the fault transition. -/
theorem exec_keeps_run_or_faults {i : Instr} (hi : i ≠ .hlt) (s : State) :
    ∃ t, exec i s = .next t ∧ (t.run = s.run ∨ t = s.raiseFault .invalidOpcode) := by
  cases i with
  | hlt => exact absurd rfl hi
  | ldi16 | inPort => exact ⟨_, rfl, .inl (by simp)⟩
  | mov16 | inc16 | dec16 | add16 | push16 | pop16 => exact withRegisterPairs_keeps_run_or_faults _ (by simp)
  | nop | ei | di | scf | ccf | cmf | ret | reti | pushf | popf | jpHl | mov | ldi | ldAbs | ldHl | ldHlD | stAbs
  | stHl | stHlD | ldz | stz | outPort | add | adc | sub | sbc | cmp | and | or | xor | addi | subi | cmpi | andi
  | ori | xori | inc | dec | neg | not | shl | shr | sar | rol | ror | swap | jmp | jz | jnz | jc | jnc | js | jns
  | jo | jno | jr | jrz | jrnz | jrc | jrnc | jrs | jrns | jro | jrno | call | push | pop =>
    exact ⟨_, rfl, .inl rfl⟩

variable {s t u : State}

/-- An instruction that ends faulted has done nothing but fault (R302). -/
theorem eq_raiseFault_of_exec_faulted {i : Instr} (hrun : s.run ≠ .faulted) (hexec : exec i s = .next t)
    (hfault : t.run = .faulted) : t = s.raiseFault .invalidOpcode := by
  by_cases hi : i = .hlt
  · have hnext : exec .hlt s = .next ((s.setRun .halted).advance 1) := rfl
    rw [hi, hnext] at hexec
    cases hexec
    cases hfault
  · obtain ⟨t', hnext, hcases⟩ := exec_keeps_run_or_faults hi s
    cases hnext.symm.trans hexec
    exact hcases.resolve_left fun hkept => hrun (hkept ▸ hfault)

/-! ### The parts of a step -/

/-- The instruction part that ends faulted has done nothing but fault, by the instruction or by the fetch (R302). -/
theorem eq_raiseFault_of_instructionPhase_faulted (hrun : s.run ≠ .faulted) (hphase : instructionPhase s = .next t)
    (hfault : t.run = .faulted) : t = s.raiseFault .invalidOpcode := by
  cases hs : s.run with
  | faulted => exact absurd hs hrun
  | halted =>
    have hidle : instructionPhase s = .next s := by simp [instructionPhase, hs]
    cases hidle.symm.trans hphase
    exact absurd hfault hrun
  | running =>
    have hfetch : execFetched s = .next t := by simpa [instructionPhase, hs] using hphase
    by_cases hinstr : ∃ i rest, s.fetched = .instr i rest
    · obtain ⟨i, rest, hi⟩ := hinstr
      have hexec : exec i s = .next t := by simpa [execFetched, hi] using hfetch
      exact eq_raiseFault_of_exec_faulted hrun hexec hfault
    · have hraise := execFetched_of_fetched_ne_instr fun i rest hi => hinstr ⟨i, rest, hi⟩
      cases hraise.symm.trans hfetch
      rfl

/-- A step is its instruction part, then its end (R100). -/
theorem step_eq_next_iff : step s = .next u ↔ ∃ t, instructionPhase s = .next t ∧ t.finishStep = u := by
  unfold step stepOnce
  cases instructionPhase s <;> simp

/-- The end of a step never faults the core: one that ends faulted was so before the check, which it skips (R322). -/
theorem State.finishStep_eq_self_of_faulted (h : t.finishStep.run = .faulted) : t.finishStep = t := by
  obtain ⟨-, hskip⟩ | ⟨hrun, hcheck⟩ := t.finishStep_cases
  · exact hskip
  · obtain ⟨-, -, henter⟩ | ⟨-, hstay⟩ := t.checkInterrupt_cases
    · rw [hcheck, henter] at h
      cases h
    · exact hcheck.trans hstay

/-- A step that ends faulted is the fault transition as a whole: only its instruction part can fault (R302). -/
theorem eq_raiseFault_of_step_faulted (hrun : s.run ≠ .faulted) (hstep : step s = .next u) (hfault : u.run = .faulted) :
    u = s.raiseFault .invalidOpcode := by
  obtain ⟨t, hphase, rfl⟩ := step_eq_next_iff.mp hstep
  have hself := State.finishStep_eq_self_of_faulted hfault
  rw [hself] at hfault ⊢
  exact eq_raiseFault_of_instructionPhase_faulted hrun hphase hfault

/-! ### The statements -/

/-- Settles O11: the step is the fault transition, and the fields of its state are read off. -/
theorem faultChangesOnlyRunAndReason : Obligations.FaultChangesOnlyRunAndReason := by
  intro s t hrun hstep hfault
  cases eq_raiseFault_of_step_faulted hrun hstep hfault
  exact ⟨rfl, rfl, rfl, rfl, rfl, rfl, rfl, rfl, rfl, rfl⟩

/-- Settles O14: the step ends with the interrupt check on the state after the instruction, which enters or stays. -/
theorem interruptTakenExactlyWhenEnabledAndPending : Obligations.InterruptTakenExactlyWhenEnabledAndPending := by
  intro s t hphase hrun
  have hfinish : t.finishStep = t.checkInterrupt :=
    (t.finishStep_cases.resolve_left fun hfaulted => hrun hfaulted.left).right
  have hstep : step s = .next t.checkInterrupt := step_eq_next_iff.mpr ⟨t, hphase, hfinish⟩
  refine ⟨fun hboth => ?taken, fun hnot => ?notTaken⟩
  case taken => rw [hstep, State.checkInterrupt, if_pos (by simpa using hboth)]
  case notTaken => rw [hstep, State.checkInterrupt, if_neg (by simpa using hnot)]

end Sys2Proof.Machine
end

section
/-! The encoding (30_encoding.md): the selector bytes a format admits, the operand bytes of each format, and with them the decoder
and the encoder as inverses of each other. -/

namespace Sys2Proof

open Machine (toNat_append_eq_mul_add toNat_extractLsb'_eq_div_mod)

/-! ### The selectors a format admits (R82 to R85) -/

theorem code_regOf (c : BitVec 3) : (regOf c).code = c := by revert c; decide

theorem code_pairOf (c : BitVec 2) : (pairOf c).code = c := by revert c; decide

/-- A field of a byte that is 0, as a number. -/
theorem field_toNat_eq_zero {sel : Byte} {start len : Nat} (h : sel.extractLsb' start len = 0) :
    sel.toNat / 2 ^ start % 2 ^ len = 0 := by
  rw [← toNat_extractLsb'_eq_div_mod, h]; rfl

/-- R82: the one selector of a register is the byte put together from its number. -/
theorem selReg_eq_some_iff {sel : Byte} {r : Reg} : selReg sel = some r ↔ sel = regSel r := by
  refine ⟨fun h => ?_, fun h => h ▸ selReg_regSel r⟩
  unfold selReg at h
  split at h
  · next hhigh =>
    cases h
    have hbyte : sel.toNat < 256 := sel.isLt
    have hzero := field_toNat_eq_zero hhigh
    apply BitVec.eq_of_toNat_eq
    simp only [regSel, code_regOf, toNat_append_eq_mul_add, toNat_extractLsb'_eq_div_mod, BitVec.toNat_ofNat]
    omega
  · cases h

/-- R83: the one selector of two registers. -/
theorem selReg2_eq_some_iff {sel : Byte} {d r : Reg} : selReg2 sel = some (d, r) ↔ sel = reg2Sel d r := by
  refine ⟨fun h => ?_, fun h => h ▸ selReg2_reg2Sel d r⟩
  unfold selReg2 at h
  split at h
  · next hfields =>
    obtain ⟨htop, hmid⟩ := hfields
    cases h
    have hbyte : sel.toNat < 256 := sel.isLt
    have hzeroTop := field_toNat_eq_zero htop
    have hzeroMid := field_toNat_eq_zero hmid
    apply BitVec.eq_of_toNat_eq
    simp only [reg2Sel, code_regOf, toNat_append_eq_mul_add, toNat_extractLsb'_eq_div_mod, BitVec.toNat_ofNat]
    omega
  · cases h

/-- R84 with every code admitted: the one selector of a pair. -/
theorem selAnyPair_eq_some_iff {sel : Byte} {p : Pair} : selAnyPair sel = some p ↔ sel = pairSel p := by
  refine ⟨fun h => ?_, fun h => h ▸ selAnyPair_pairSel p⟩
  unfold selAnyPair at h
  split at h
  · next hhigh =>
    cases h
    have hbyte : sel.toNat < 256 := sel.isLt
    have hzero := field_toNat_eq_zero hhigh
    apply BitVec.eq_of_toNat_eq
    simp only [pairSel, code_pairOf, toNat_append_eq_mul_add, toNat_extractLsb'_eq_div_mod, BitVec.toNat_ofNat]
    omega
  · cases h

/-- R84 with `SP` not admitted. -/
theorem selPair_eq_some_iff {sel : Byte} {p : Pair} :
    selPair sel = some p ↔ p.isRegisterPair = true ∧ sel = pairSel p := by
  rw [selPair, Option.filter_eq_some_iff, selAnyPair_eq_some_iff, and_comm]

/-- R85: the one selector of two pairs of general registers. -/
theorem selPair2_eq_some_iff {sel : Byte} {pd ps : Pair} :
    selPair2 sel = some (pd, ps) ↔ (pd.isRegisterPair && ps.isRegisterPair) = true ∧ sel = pair2Sel pd ps := by
  refine ⟨fun h => ?_, fun ⟨hp, hsel⟩ => by rw [hsel, selPair2_pair2Sel, if_pos hp]⟩
  unfold selPair2 at h
  split at h
  · next hfields =>
    obtain ⟨htop, hmid⟩ := hfields
    obtain ⟨hsome, hp⟩ := Option.filter_eq_some_iff.mp h
    refine ⟨hp, ?_⟩
    cases hsome
    have hbyte : sel.toNat < 256 := sel.isLt
    have hzeroTop := field_toNat_eq_zero htop
    have hzeroMid := field_toNat_eq_zero hmid
    apply BitVec.eq_of_toNat_eq
    simp only [pair2Sel, code_pairOf, toNat_append_eq_mul_add, toNat_extractLsb'_eq_div_mod, BitVec.toNat_ofNat]
    omega
  · cases h

/-! ### The operand bytes of each format (R81) -/

/-- The bytes after the opcode that a format has for an instruction of its row. -/
inductive Shape.Encodes : Shape → Instr → List Byte → Prop
  | imp (i) : Encodes (.imp i) i []
  | reg (mk r) : Encodes (.reg mk) (mk r) [regSel r]
  | reg2 (mk d r) : Encodes (.reg2 mk) (mk d r) [reg2Sel d r]
  | regi (mk r b) : Encodes (.regi mk) (mk r b) [regSel r, b]
  | rega (mk r a) : Encodes (.rega mk) (mk r a) [regSel r, loByte a, hiByte a]
  | pr (mk p) (hp : p.isRegisterPair = true) : Encodes (.pr mk) (mk p) [pairSel p]
  | pr2 (mk pd ps) (hp : (pd.isRegisterPair && ps.isRegisterPair) = true) :
    Encodes (.pr2 mk) (mk pd ps) [pair2Sel pd ps]
  | pri16 (mk p w) : Encodes (.pri16 mk) (mk p w) [pairSel p, loByte w, hiByte w]
  | abs (mk a) : Encodes (.abs mk) (mk a) [loByte a, hiByte a]
  | rel (mk d) : Encodes (.rel mk) (mk d) [d]

/-- A row's length counts the opcode byte and its operand bytes (R80, R81). -/
theorem Shape.Encodes.length_eq {sh : Shape} {i : Instr} {ops : List Byte} (h : sh.Encodes i ops) :
    sh.length = ops.length + 1 := by
  cases h <;> rfl

theorem withRegSel_eq_instr_iff {α : Type} {sel : Byte} {x : Option α} {mk : α → Instr} {rest rest' : List Byte}
    {i : Instr} : withRegSel sel x mk rest = .instr i rest' ↔ ∃ v, x = some v ∧ mk v = i ∧ rest = rest' := by
  cases x <;> simp [withRegSel]

theorem withPairSel_eq_instr_iff {α : Type} {sel : Byte} {x : Option α} {mk : α → Instr} {rest rest' : List Byte}
    {i : Instr} : withPairSel sel x mk rest = .instr i rest' ↔ ∃ v, x = some v ∧ mk v = i ∧ rest = rest' := by
  cases x <;> simp [withPairSel]

/-- Operand bytes that decode are those of the format, for the instruction decoded. -/
theorem Shape.encodes_of_decodeOperands {sh : Shape} {bytes rest : List Byte} {i : Instr}
    (h : decodeOperands sh bytes = .instr i rest) : ∃ ops, sh.Encodes i ops ∧ bytes = ops ++ rest := by
  unfold decodeOperands at h
  split at h
  case h_1 => cases h; exact ⟨_, .imp i, rfl⟩
  case h_2 =>
    obtain ⟨r, hsel, rfl, rfl⟩ := withRegSel_eq_instr_iff.mp h
    cases selReg_eq_some_iff.mp hsel
    exact ⟨_, .reg .., rfl⟩
  case h_3 =>
    obtain ⟨⟨d, r⟩, hsel, rfl, rfl⟩ := withRegSel_eq_instr_iff.mp h
    cases selReg2_eq_some_iff.mp hsel
    exact ⟨_, .reg2 .., rfl⟩
  case h_4 =>
    obtain ⟨r, hsel, rfl, rfl⟩ := withRegSel_eq_instr_iff.mp h
    cases selReg_eq_some_iff.mp hsel
    exact ⟨_, .regi .., rfl⟩
  case h_5 =>
    obtain ⟨r, hsel, rfl, rfl⟩ := withRegSel_eq_instr_iff.mp h
    cases selReg_eq_some_iff.mp hsel
    exact ⟨_, .rega .., by simp⟩
  case h_6 =>
    obtain ⟨p, hsel, rfl, rfl⟩ := withPairSel_eq_instr_iff.mp h
    obtain ⟨hp, rfl⟩ := selPair_eq_some_iff.mp hsel
    exact ⟨_, .pr _ p hp, rfl⟩
  case h_7 =>
    obtain ⟨⟨pd, ps⟩, hsel, rfl, rfl⟩ := withPairSel_eq_instr_iff.mp h
    obtain ⟨hp, rfl⟩ := selPair2_eq_some_iff.mp hsel
    exact ⟨_, .pr2 _ pd ps hp, rfl⟩
  case h_8 =>
    obtain ⟨p, hsel, rfl, rfl⟩ := withPairSel_eq_instr_iff.mp h
    cases selAnyPair_eq_some_iff.mp hsel
    exact ⟨_, .pri16 .., by simp⟩
  case h_9 => cases h; exact ⟨_, .abs .., by simp⟩
  case h_10 => cases h; exact ⟨_, .rel .., rfl⟩
  all_goals cases h

/-- The operand bytes of a format decode to the instruction they are for, whatever follows. -/
theorem Shape.Encodes.decodeOperands {sh : Shape} {i : Instr} {ops : List Byte} (h : sh.Encodes i ops)
    (rest : List Byte) : decodeOperands sh (ops ++ rest) = .instr i rest := by
  cases h with
  | imp | rel => rfl
  | reg | regi => exact withRegSel_eq_instr_iff.mpr ⟨_, selReg_regSel _, rfl, rfl⟩
  | reg2 => exact withRegSel_eq_instr_iff.mpr ⟨_, selReg2_reg2Sel _ _, rfl, rfl⟩
  | rega mk r a => exact withRegSel_eq_instr_iff.mpr ⟨r, selReg_regSel r, by rw [wordOf_hiByte_loByte], rfl⟩
  | pr mk p hp => exact withPairSel_eq_instr_iff.mpr ⟨p, selPair_eq_some_iff.mpr ⟨hp, rfl⟩, rfl, rfl⟩
  | pr2 mk pd ps hp => exact withPairSel_eq_instr_iff.mpr ⟨(pd, ps), selPair2_eq_some_iff.mpr ⟨hp, rfl⟩, rfl, rfl⟩
  | pri16 mk p w => exact withPairSel_eq_instr_iff.mpr ⟨p, selAnyPair_pairSel p, by rw [wordOf_hiByte_loByte], rfl⟩
  | abs mk a => exact congrArg (fun w => Decoded.instr (mk w) rest) (wordOf_hiByte_loByte a)

/-! ### The rows of the opcode map (R90) -/

/-- Every well-formed instruction has its row: its opcode selects the format of its operand bytes. -/
theorem encode_has_row {i : Instr} (hi : i.wellFormed = true) :
    ∃ op sh ops, encode i = op :: ops ∧ opMap op = some sh ∧ sh.Encodes i ops := by
  cases i with
  | nop | hlt | ei | di | scf | ccf | cmf | ret | reti | pushf | popf | jpHl => exact ⟨_, _, _, rfl, rfl, .imp ..⟩
  | ldHl | stHl | inc | dec | neg | not | shl | shr | sar | rol | ror | swap | push | pop =>
    exact ⟨_, _, _, rfl, rfl, .reg ..⟩
  | mov | add | adc | sub | sbc | cmp | and | or | xor => exact ⟨_, _, _, rfl, rfl, .reg2 ..⟩
  | ldi | ldHlD | stHlD | ldz | stz | inPort | outPort | addi | subi | cmpi | andi | ori | xori =>
    exact ⟨_, _, _, rfl, rfl, .regi ..⟩
  | ldAbs | stAbs => exact ⟨_, _, _, rfl, rfl, .rega ..⟩
  | inc16 | dec16 | push16 | pop16 => exact ⟨_, _, _, rfl, rfl, .pr _ _ hi⟩
  | mov16 | add16 => exact ⟨_, _, _, rfl, rfl, .pr2 _ _ _ hi⟩
  | ldi16 => exact ⟨_, _, _, rfl, rfl, .pri16 ..⟩
  | jmp | jz | jnz | jc | jnc | js | jns | jo | jno | call => exact ⟨_, _, _, rfl, rfl, .abs ..⟩
  | jr | jrz | jrnz | jrc | jrnc | jrs | jrns | jro | jrno => exact ⟨_, _, _, rfl, rfl, .rel ..⟩

/-- A row is right when the instructions of its format are well-formed and have its opcode as the first byte. -/
def RowEncodes (row : Byte × Shape) : Prop :=
  ∀ i ops, row.2.Encodes i ops → i.wellFormed = true ∧ encode i = row.1 :: ops

/-- Every row of the opcode map is right, table by table. -/
theorem opRows_encode : ∀ row ∈ opRows, RowEncodes row := by
  simp only [opRows, impliedRows, moveRows, twoOperandRows, oneOperandRows, jumpRows, stackRows, List.cons_append,
    List.nil_append, List.forall_mem_cons, List.not_mem_nil, false_implies, implies_true, and_true]
  and_intros
  all_goals rintro i ops ⟨⟩
  all_goals exact ⟨by simp [Instr.wellFormed, *], rfl⟩

/-- An opcode byte that selects a row, and operand bytes of the row's format, are the encoding of their instruction. -/
theorem encode_of_row {op : Byte} {sh : Shape} {i : Instr} {ops : List Byte} (hrow : opMap op = some sh)
    (h : sh.Encodes i ops) : i.wellFormed = true ∧ encode i = op :: ops := by
  obtain ⟨before, after, hrows, -⟩ := List.lookup_eq_some_iff.mp hrow
  exact opRows_encode (op, sh) (by simp [hrows]) i ops h

/-- Decoding and encoding are inverse to each other: a byte sequence decodes to an instruction exactly when it is a well-formed
one's encoding and what follows it. -/
theorem decode_eq_instr_iff {bytes rest : List Byte} {i : Instr} :
    decode bytes = .instr i rest ↔ i.wellFormed = true ∧ bytes = encode i ++ rest := by
  constructor
  · intro h
    unfold decode at h
    split at h
    · cases h
    · next op operands =>
      split at h
      · cases h
      · next sh hrow =>
        obtain ⟨ops, hops, rfl⟩ := Shape.encodes_of_decodeOperands h
        obtain ⟨hi, hencode⟩ := encode_of_row hrow hops
        exact ⟨hi, by rw [hencode, List.cons_append]⟩
  · rintro ⟨hi, rfl⟩
    obtain ⟨op, sh, ops, hencode, hrow, hops⟩ := encode_has_row hi
    simpa [hencode, decode, hrow] using hops.decodeOperands rest

/-! ### The statements -/

/-- Settles O1: the encoding of a well-formed instruction is a byte sequence that decodes to it. -/
theorem encodeThenDecode : Obligations.EncodeThenDecode :=
  fun _ _ hi => decode_eq_instr_iff.mpr ⟨hi, rfl⟩

/-- Settles O2: no other byte sequence decodes to it, and no other instruction is decoded. -/
theorem decodedBytesAreTheEncoding : Obligations.DecodedBytesAreTheEncoding :=
  fun _ _ _ h => decode_eq_instr_iff.mp h

/-- Settles O3: the ten words are the encodings of their instructions. -/
theorem specWordsDecode : Obligations.SpecWordsDecode := by
  unfold Obligations.SpecWordsDecode
  simp only [decode_eq_instr_iff]
  decide

end Sys2Proof
end

section
/-! Instruction fetch (30_encoding.md sections 2 and 7): which selectors each format refuses, the fault they end in, and the fetched
bytes as the beginning of the four bytes from `PC` on. -/

namespace Sys2Proof

/-! ### The selectors a format refuses (R86, R87) -/

/-- The selectors that 30_encoding.md section 2 makes invalid in a format: a bit set that must be 0, or a pair code 3 where `SP` is
not admitted. -/
def Shape.RefusesSelector : Shape → Byte → Prop
  | .reg _, sel | .regi _, sel | .rega _, sel => sel &&& 0xF8 ≠ 0
  | .reg2 _, sel => sel &&& 0x88 ≠ 0
  | .pri16 _, sel => sel &&& 0xFC ≠ 0
  | .pr _, sel => sel &&& 0xFC ≠ 0 ∨ sel = 0x03
  | .pr2 _, sel => sel &&& 0xCC ≠ 0 ∨ sel &&& 0x30 = 0x30 ∨ sel &&& 0x03 = 0x03
  | .imp _, _ | .abs _, _ | .rel _, _ => False

theorem regSel_bits (r : Reg) : regSel r &&& 0xF8 = 0 := by cases r <;> decide

theorem reg2Sel_bits (d r : Reg) : reg2Sel d r &&& 0x88 = 0 := by cases d <;> cases r <;> decide

theorem pairSel_bits (p : Pair) : pairSel p &&& 0xFC = 0 := by cases p <;> decide

theorem pairSel_ne_of_isRegisterPair {p : Pair} (hp : p.isRegisterPair = true) : pairSel p ≠ 0x03 := by
  revert hp; cases p <;> decide

theorem pair2Sel_bits {pd ps : Pair} (hp : (pd.isRegisterPair && ps.isRegisterPair) = true) :
    pair2Sel pd ps &&& 0xCC = 0 ∧ pair2Sel pd ps &&& 0x30 ≠ 0x30 ∧ pair2Sel pd ps &&& 0x03 ≠ 0x03 := by
  revert hp; cases pd <;> cases ps <;> decide

/-- No encoding has a selector that its format refuses. -/
theorem Shape.Encodes.not_refusesSelector {sh : Shape} {i : Instr} {sel : Byte} {ops : List Byte}
    (h : sh.Encodes i (sel :: ops)) : ¬sh.RefusesSelector sel := by
  cases h with
  | reg mk r | regi mk r | rega mk r => exact not_not_intro (regSel_bits r)
  | reg2 mk d r => exact not_not_intro (reg2Sel_bits d r)
  | pri16 mk p => exact not_not_intro (pairSel_bits p)
  | pr mk p hp => exact not_or_intro (not_not_intro (pairSel_bits p)) (pairSel_ne_of_isRegisterPair hp)
  | pr2 mk pd ps hp =>
    obtain ⟨hbits, hd, hs⟩ := pair2Sel_bits hp
    exact not_or_intro (not_not_intro hbits) (not_or_intro hd hs)
  | abs | rel => exact not_false

/-- A format that refuses a selector has one: its instructions are two bytes long or longer. -/
theorem Shape.RefusesSelector.length_eq {sh : Shape} {sel : Byte} (h : sh.RefusesSelector sel) :
    ∃ n, sh.length = n + 2 := by
  cases sh with
  | reg | reg2 | regi | rega | pr | pr2 | pri16 => exact ⟨_, rfl⟩
  | imp | abs | rel => exact h.elim

/-- No instruction is longer than four bytes (R80). -/
theorem Shape.length_le_four (sh : Shape) : sh.length ≤ 4 := by cases sh <;> simp [Shape.length]

/-- A refused selector decodes to no instruction, whatever follows it. -/
theorem Shape.RefusesSelector.decodeOperands_ne {sh : Shape} {sel : Byte} (h : sh.RefusesSelector sel)
    (bytes : List Byte) (i : Instr) (rest : List Byte) : decodeOperands sh (sel :: bytes) ≠ .instr i rest := by
  intro hdecode
  obtain ⟨ops, hops, hbytes⟩ := Shape.encodes_of_decodeOperands hdecode
  cases ops with
  | nil =>
    obtain ⟨n, hn⟩ := h.length_eq
    have hlength := hops.length_eq
    rw [hn, List.length_nil] at hlength
    omega
  | cons o ops =>
    cases hbytes
    exact hops.not_refusesSelector h

end Sys2Proof

namespace Sys2Proof.Machine

variable {s : State}

/-! ### The fault of a refused selector -/

/-- A running core whose opcode's format refuses the byte after it takes the fault transition (R86, R87, R302). -/
theorem step_of_refusesSelector {sh : Shape} (hrun : s.run = .running) (hrow : opMap (s.readByte s.pc) = some sh)
    (hsel : sh.RefusesSelector (s.readByte (s.pc + 1))) : step s = .next (faultedState s) := by
  obtain ⟨n, hlength⟩ := hsel.length_eq
  have hfetch : s.fetchBytes = s.readByte s.pc :: s.readByte (s.pc + 1) :: s.bytesAt n (s.pc + 1 + 1) := by
    simp only [State.fetchBytes, hrow, hlength, State.bytesAt]
  refine step_of_fetched_ne_instr hrun fun i rest => ?_
  simpa only [State.fetched, hfetch, decode, hrow] using hsel.decodeOperands_ne _ i rest

/-- Opcodes that select a format refusing such selectors fault on them. -/
theorem step_of_opcode_mem {opcodes : List Byte} {bad : Byte → Prop}
    (hrows : ∀ op ∈ opcodes, ∃ sh, opMap op = some sh ∧ ∀ sel, bad sel → sh.RefusesSelector sel)
    (hrun : s.run = .running) (hop : s.readByte s.pc ∈ opcodes) (hsel : bad (s.readByte (s.pc + 1))) :
    step s = .next (faultedState s) := by
  obtain ⟨sh, hrow, hrefuses⟩ := hrows _ hop
  exact step_of_refusesSelector hrun hrow (hrefuses _ hsel)

/-! ### The fetched bytes -/

/-- Fewer bytes from an address on are the first of more. -/
theorem State.bytesAt_eq_take (s : State) (n k : Nat) (a : Word) : s.bytesAt n a = (s.bytesAt (n + k) a).take n := by
  induction n generalizing a with
  | zero => simp [State.bytesAt]
  | succ n ih => rw [Nat.succ_add, State.bytesAt, State.bytesAt, List.take_succ_cons, ← ih]

/-- The longest instruction's bytes at `PC` (R80). -/
theorem State.bytesAt_four (s : State) :
    s.bytesAt 4 s.pc = [s.readByte s.pc, s.readByte (s.pc + 1), s.readByte (s.pc + 2), s.readByte (s.pc + 3)] := by
  simp [State.bytesAt, BitVec.add_assoc]

/-- When the four bytes from `PC` on decode, the step decodes the same instruction: it fetches exactly its bytes (R93, R101). -/
theorem State.fetched_of_decode_four {i : Instr} {rest : List Byte}
    (h : decode [s.readByte s.pc, s.readByte (s.pc + 1), s.readByte (s.pc + 2), s.readByte (s.pc + 3)] = .instr i rest) :
    s.fetched = .instr i [] := by
  obtain ⟨hi, hbytes⟩ := decode_eq_instr_iff.mp h
  obtain ⟨op, sh, ops, hencode, hrow, hops⟩ := encode_has_row hi
  have hop : s.readByte s.pc = op := by
    rw [hencode] at hbytes
    exact (List.cons.inj hbytes).left
  have hlength : sh.length = (encode i).length := by rw [hops.length_eq, hencode, List.length_cons]
  obtain ⟨k, hk⟩ := Nat.exists_eq_add_of_le (Shape.length_le_four sh)
  have hfetch : s.fetchBytes = encode i ++ [] :=
    calc s.fetchBytes
      _ = s.bytesAt sh.length s.pc := by simp only [State.fetchBytes, hop, hrow]
      _ = (s.bytesAt 4 s.pc).take sh.length := by rw [hk, ← State.bytesAt_eq_take]
      _ = (encode i ++ rest).take (encode i).length := by rw [State.bytesAt_four, hbytes, hlength]
      _ = encode i ++ [] := by rw [List.take_left, List.append_nil]
  exact decode_eq_instr_iff.mpr ⟨hi, hfetch⟩

/-- The first byte fetched is the one at `PC` (R93). -/
theorem State.fetchBytes_head (s : State) : ∃ operands, s.fetchBytes = s.readByte s.pc :: operands := by
  unfold State.fetchBytes
  split
  · exact ⟨[], rfl⟩
  · next sh _ =>
    cases sh <;> exact ⟨_, rfl⟩

/-- A fetched instruction is well-formed, and the byte at `PC` is its opcode (R92). -/
theorem State.opcode_of_fetched {i : Instr} {rest : List Byte} (h : s.fetched = .instr i rest) :
    i.wellFormed = true ∧ (encode i ++ rest).head? = some (s.readByte s.pc) := by
  obtain ⟨hi, hbytes⟩ := decode_eq_instr_iff.mp h
  obtain ⟨operands, hhead⟩ := s.fetchBytes_head
  exact ⟨hi, by rw [← hbytes, hhead, List.head?_cons]⟩

/-! ### The statements -/

/-- Settles O5: the one-register formats refuse a selector with a bit of `0xF8`, `REG2` one with a bit of `0x88`. -/
theorem invalidRegisterSelectorFaults : Obligations.InvalidRegisterSelectorFaults := by
  rintro s hrun (⟨hop, hsel⟩ | ⟨hop, hsel⟩)
  · refine step_of_opcode_mem (bad := (· &&& 0xF8 ≠ 0)) (fun op hmem => ?_) hrun hop hsel
    fin_cases hmem <;> exact ⟨_, rfl, fun _ => id⟩
  · refine step_of_opcode_mem (bad := (· &&& 0x88 ≠ 0)) (fun op hmem => ?_) hrun hop hsel
    fin_cases hmem <;> exact ⟨_, rfl, fun _ => id⟩

/-- Settles O6: each pair format refuses the selectors its clause names. -/
theorem invalidPairSelectorFaults : Obligations.InvalidPairSelectorFaults := by
  rintro s hrun (⟨hop, hsel⟩ | ⟨hop, hsel⟩ | ⟨hop, hsel⟩)
  · exact step_of_refusesSelector (sh := .pri16 .ldi16) hrun (by rw [hop]; rfl) hsel
  · refine step_of_opcode_mem (bad := fun sel => sel &&& 0xFC ≠ 0 ∨ sel = 0x03) (fun op hmem => ?_) hrun hop hsel
    fin_cases hmem <;> exact ⟨_, rfl, fun _ => id⟩
  · refine step_of_opcode_mem
      (bad := fun sel => sel &&& 0xCC ≠ 0 ∨ sel &&& 0x30 = 0x30 ∨ sel &&& 0x03 = 0x03) (fun op hmem => ?_) hrun hop hsel
    fin_cases hmem <;> exact ⟨_, rfl, fun _ => id⟩

end Sys2Proof.Machine
end

section
/-! The whole instruction set: what an instruction may write, one rule per write of the state, and every instruction as a chain of
such writes (10_state.md, 20_memory.md sections 3 and 7, 41_alu_arith_logic.md R158). -/

namespace Sys2Proof.Machine

/-! ### What may be written -/

/-- What is allowed to change: registers, `SP`, flags by a mask, bytes of memory, `IE`, `RUN`, `FAULT_REASON`, the ports. `IRQP`
is never in it. -/
structure WriteSet where
  regs : List Reg
  sp : Prop
  flags : Flags
  bytes : List Word
  ie : Prop
  run : Prop
  faultReason : Prop
  ports : Prop

/-- Flags outside the mask are as before. -/
structure FlagsWithin (mask f g : Flags) : Prop where
  s : mask.s = false → g.s = f.s
  z : mask.z = false → g.z = f.z
  o : mask.o = false → g.o = f.o
  c : mask.c = false → g.c = f.c

/-- From `s` to `t` nothing outside the write set has changed, and memory has kept its canonical form. -/
structure Within (w : WriteSet) (s t : State) : Prop where
  reg : ∀ r, r ∉ w.regs → t.reg r = s.reg r
  sp : ¬w.sp → t.sp = s.sp
  flags : FlagsWithin w.flags s.flags t.flags
  mem : ∀ a, a ∉ w.bytes → t.readByte a = s.readByte a
  wf : Memory.wf s.mem = true → Memory.wf t.mem = true
  ie : ¬w.ie → t.ie = s.ie
  irqp : t.irqp = s.irqp
  run : ¬w.run → t.run = s.run
  faultReason : ¬w.faultReason → t.faultReason = s.faultReason
  ports : ¬w.ports → t.ports = s.ports

/-- The write set of an instruction: its rule's destinations, and the transitions only it has (`HLT`, `EI`, `DI`, `RETI`, `IN`,
`OUT`); a term that is no instruction may fault. -/
def writeSet (i : Instr) (s : State) : WriteSet where
  regs := i.destRegs
  sp := i.writesSp = true
  flags := i.flagsWritten
  bytes := i.storedBytes s
  ie := i = .ei ∨ i = .di ∨ i = .reti
  run := i = .hlt ∨ i.wellFormed = false
  faultReason := i.wellFormed = false
  ports := (∃ d p, i = .inPort d p) ∨ ∃ r p, i = .outPort r p

/-! ### One rule per write -/

section Rules

variable {w : WriteSet} {s t : State}

theorem FlagsWithin.refl (mask f : Flags) : FlagsWithin mask f f := ⟨fun _ => rfl, fun _ => rfl, fun _ => rfl, fun _ => rfl⟩

/-- A mask of all four flags allows every write. -/
theorem FlagsWithin.all (f g : Flags) : FlagsWithin ⟨true, true, true, true⟩ f g := ⟨nofun, nofun, nofun, nofun⟩

/-- A 16-bit result writes `Z` and `S` alone (R212). -/
theorem FlagsWithin.flags16 (r : Word) (f : Flags) : FlagsWithin ⟨true, true, false, false⟩ f (flags16 r f) :=
  ⟨nofun, nofun, fun _ => rfl, fun _ => rfl⟩

theorem Within.refl (w : WriteSet) (s : State) : Within w s s where
  reg _ _ := rfl
  sp _ := rfl
  flags := .refl ..
  mem _ _ := rfl
  wf h := h
  ie _ := rfl
  irqp := rfl
  run _ := rfl
  faultReason _ := rfl
  ports _ := rfl

theorem Within.setReg (h : Within w s t) {d : Reg} (hd : d ∈ w.regs) (v : Byte) : Within w s (t.setReg d v) where
  __ := h
  reg q hq := by
    have hne : q ≠ d := fun e => hq (e ▸ hd)
    rw [State.setReg_reg, if_neg hne, h.reg q hq]

theorem Within.setSp (h : Within w s t) (hsp : w.sp) (x : Word) : Within w s (t.setSp x) where
  __ := h
  sp hn := absurd hsp hn

theorem Within.setPc (h : Within w s t) (x : Word) : Within w s (t.setPc x) where
  __ := h

theorem Within.advance (h : Within w s t) (len : Nat) : Within w s (t.advance len) := h.setPc _

theorem Within.setFlags (h : Within w s t) {f : Flags} (hf : FlagsWithin w.flags s.flags f) :
    Within w s (t.setFlags f) where
  __ := h
  flags := hf

theorem Within.setCarry (h : Within w s t) (hc : w.flags.c = true) (b : Bool) : Within w s (t.setCarry b) where
  __ := h
  flags := ⟨h.flags.s, h.flags.z, h.flags.o, fun hn => nomatch hn.symm.trans hc⟩

/-- An ALU result written back is a register write and a write of the flags. -/
theorem Within.writeAlu (h : Within w s t) {d : Reg} (hd : d ∈ w.regs) {res : AluResult}
    (hf : FlagsWithin w.flags s.flags res.flags) (len : Nat) :
    Within w s (((t.setReg d res.value).setFlags res.flags).advance len) :=
  ((h.setReg hd res.value).setFlags hf).advance len

theorem Within.writeByte (h : Within w s t) {a : Word} (ha : a ∈ w.bytes) (v : Byte) : Within w s (t.writeByte a v) where
  __ := h
  mem b hb := by
    have hne : b ≠ a := fun e => hb (e ▸ ha)
    rw [State.writeByte_readByte, if_neg hne, h.mem b hb]
  wf hs := Memory.wf_write _ _ _ (h.wf hs)

theorem Within.setIe (h : Within w s t) (hie : w.ie) (b : Bool) : Within w s (t.setIe b) where
  __ := h
  ie hn := absurd hie hn

theorem Within.setRun (h : Within w s t) (hrun : w.run) (r : RunState) : Within w s (t.setRun r) where
  __ := h
  run hn := absurd hrun hn

theorem Within.raiseFault (h : Within w s t) (hrun : w.run) (hreason : w.faultReason) (why : FaultReason) :
    Within w s (t.raiseFault why) where
  __ := h
  run hn := absurd hrun hn
  faultReason hn := absurd hreason hn

theorem Within.portOut (h : Within w s t) (hports : w.ports) (p v : Byte) : Within w s (t.portOut p v) where
  __ := h
  ports hn := absurd hports hn

theorem Within.countRead (h : Within w s t) (hports : w.ports) : Within w s t.countRead := by
  unfold State.countRead
  split
  · exact { h with ports := fun hn => absurd hports hn }
  · exact h

/-- A pair write is two register writes, or a write of `SP` (R22, R23). -/
theorem Within.setPair (h : Within w s t) {p : Pair} (hregs : pairRegs p ⊆ w.regs) (hsp : p = .sp → w.sp) (x : Word) :
    Within w s (t.setPair p x) := by
  cases p with
  | sp => exact h.setSp (hsp rfl) x
  | bc | de | hl => exact (h.setReg (hregs (by decide)) _).setReg (hregs (by decide)) _

theorem Within.push8 (h : Within w s t) (hsp : w.sp) (hbyte : t.sp - 1 ∈ w.bytes) (v : Byte) : Within w s (t.push8 v) :=
  (h.setSp hsp _).writeByte hbyte v

theorem Within.push16 (h : Within w s t) (hsp : w.sp) (hhigh : t.sp - 1 ∈ w.bytes) (hlow : t.sp - 2 ∈ w.bytes)
    (x : Word) : Within w s (t.push16 x) :=
  (h.push8 hsp hhigh _).push8 hsp (sub_one_sub_one t.sp ▸ hlow) _

theorem Within.drop8 (h : Within w s t) (hsp : w.sp) : Within w s t.drop8 := h.setSp hsp _

theorem Within.drop16 (h : Within w s t) (hsp : w.sp) : Within w s t.drop16 := (h.drop8 hsp).drop8 hsp

end Rules

/-! ### Pair operands (R84, R87) -/

theorem isRegisterPair_iff {p : Pair} : p.isRegisterPair = true ↔ p ≠ .sp := by cases p <;> decide

theorem sp_notMem_iff {p : Pair} : Pair.sp ∉ [p] ↔ p.isRegisterPair = true := by cases p <;> decide

theorem sp_notMem_pair_iff {pd ps : Pair} :
    Pair.sp ∉ [pd, ps] ↔ (pd.isRegisterPair && ps.isRegisterPair) = true := by
  cases pd <;> cases ps <;> decide

/-- A pair instruction has its effect when none of its operands is `SP`. -/
theorem withRegisterPairs_of_notMem {ps : List Pair} (h : Pair.sp ∉ ps) (s : State)
    (effect : Host.Outcome State Fault Refusal) : withRegisterPairs ps s effect = effect := if_neg h

/-- A pair instruction that names `SP` is the fault transition. -/
theorem withRegisterPairs_of_mem {ps : List Pair} (h : Pair.sp ∈ ps) (s : State)
    (effect : Host.Outcome State Fault Refusal) : withRegisterPairs ps s effect = .next (faultedState s) := if_pos h

/-- A pair instruction stays within a write set that its effect keeps to, if its fault is allowed where it names `SP`. -/
theorem withRegisterPairs_within {w : WriteSet} {s t : State} {ps : List Pair}
    (hfault : Pair.sp ∈ ps → w.run ∧ w.faultReason) (h : Pair.sp ∉ ps → Within w s t) :
    ∃ u, withRegisterPairs ps s (.next t) = .next u ∧ Within w s u := by
  by_cases hsp : Pair.sp ∈ ps
  · obtain ⟨hrun, hreason⟩ := hfault hsp
    exact ⟨_, withRegisterPairs_of_mem hsp s _, (Within.refl w s).raiseFault hrun hreason .invalidOpcode⟩
  · exact ⟨t, withRegisterPairs_of_notMem hsp s _, h hsp⟩

/-- The one-pair instructions: the fault is allowed to a term that is no instruction. -/
theorem withRegisterPair_within {i : Instr} {p : Pair} {s t : State} (hi : i.wellFormed = p.isRegisterPair)
    (h : p ≠ .sp → Within (writeSet i s) s t) :
    ∃ u, withRegisterPairs [p] s (.next t) = .next u ∧ Within (writeSet i s) s u := by
  refine withRegisterPairs_within (fun hsp => ?_) fun hsp => h (isRegisterPair_iff.mp (sp_notMem_iff.mp hsp))
  have hfalse : i.wellFormed = false := by
    rw [hi, ← Bool.not_eq_true, ← sp_notMem_iff]
    exact not_not_intro hsp
  exact ⟨.inr hfalse, hfalse⟩

/-- The two-pair instructions. -/
theorem withRegisterPairs_two_within {i : Instr} {pd ps : Pair} {s t : State}
    (hi : i.wellFormed = (pd.isRegisterPair && ps.isRegisterPair)) (h : pd ≠ .sp → Within (writeSet i s) s t) :
    ∃ u, withRegisterPairs [pd, ps] s (.next t) = .next u ∧ Within (writeSet i s) s u := by
  refine withRegisterPairs_within (fun hsp => ?_) fun hsp => h fun hd => hsp (hd ▸ List.mem_cons_self)
  have hfalse : i.wellFormed = false := by
    rw [hi, ← Bool.not_eq_true, ← sp_notMem_pair_iff]
    exact not_not_intro hsp
  exact ⟨.inr hfalse, hfalse⟩

/-! ### Every instruction -/

/-- Every instruction gives a next state and changes nothing outside its write set. -/
theorem exec_within (i : Instr) (s : State) : ∃ t, exec i s = .next t ∧ Within (writeSet i s) s t := by
  have start := Within.refl (writeSet i s) s
  cases i with
  | nop => exact ⟨_, rfl, start.advance 1⟩
  | hlt => exact ⟨_, rfl, (start.setRun (.inl rfl) _).advance 1⟩
  | ei => exact ⟨_, rfl, (start.setIe (.inl rfl) _).advance 1⟩
  | di => exact ⟨_, rfl, (start.setIe (.inr (.inl rfl)) _).advance 1⟩
  | scf | ccf | cmf => exact ⟨_, rfl, (start.setCarry rfl _).advance 1⟩
  | ret => exact ⟨_, rfl, (start.drop16 rfl).setPc _⟩
  | reti => exact ⟨_, rfl, ((start.drop16 rfl).setPc _).setIe (.inr (.inr rfl)) _⟩
  | pushf => exact ⟨_, rfl, (start.push8 rfl (List.mem_singleton_self _) _).advance 1⟩
  | popf => exact ⟨_, rfl, ((start.drop8 rfl).setFlags (.all ..)).advance 1⟩
  | mov | ldi | ldAbs | ldHl | ldHlD | ldz => exact ⟨_, rfl, (start.setReg (List.mem_singleton_self _) _).advance _⟩
  | stAbs | stHl | stHlD | stz => exact ⟨_, rfl, (start.writeByte (List.mem_singleton_self _) _).advance _⟩
  | ldi16 p imm =>
    have hsp : p = .sp → (Instr.ldi16 p imm).writesSp = true := fun hp => hp ▸ rfl
    exact ⟨_, rfl, (start.setPair (List.Subset.refl _) hsp imm).advance 4⟩
  | mov16 =>
    exact withRegisterPairs_two_within rfl fun hp =>
      (start.setPair (List.Subset.refl _) (absurd · hp) _).advance 2
  | inPort d port =>
    have hcount := start.countRead (.inl ⟨d, port, rfl⟩)
    exact ⟨_, rfl, (hcount.setReg (List.mem_singleton_self d) _).advance 3⟩
  | outPort r port => exact ⟨_, rfl, (start.portOut (.inr ⟨r, port, rfl⟩) _ _).advance 3⟩
  | add | adc | sub | sbc | and | or | xor | addi | subi | andi | ori | xori | neg | not =>
    exact ⟨_, rfl, .writeAlu start (List.mem_singleton_self _) (.all ..) _⟩
  | cmp | cmpi => exact ⟨_, rfl, (start.setFlags (.all ..)).advance _⟩
  | inc | dec =>
    exact ⟨_, rfl, .writeAlu start (List.mem_singleton_self _) ⟨nofun, nofun, nofun, fun _ => rfl⟩ 2⟩
  | shl | shr | sar | rol | ror =>
    exact ⟨_, rfl, .writeAlu start (List.mem_singleton_self _) ⟨nofun, nofun, fun _ => rfl, nofun⟩ 2⟩
  | swap =>
    exact ⟨_, rfl, .writeAlu start (List.mem_singleton_self _) ⟨nofun, nofun, fun _ => rfl, fun _ => rfl⟩ 2⟩
  | inc16 | dec16 =>
    exact withRegisterPair_within rfl fun hp =>
      ((start.setPair (List.Subset.refl _) (absurd · hp) _).setFlags (.flags16 ..)).advance 2
  | add16 =>
    exact withRegisterPairs_two_within rfl fun hp =>
      ((start.setPair (List.Subset.refl _) (absurd · hp) _).setFlags (.flags16 ..)).advance 2
  | jmp | jz | jnz | jc | jnc | js | jns | jo | jno | jr | jrz | jrnz | jrc | jrnc | jrs | jrns | jro | jrno | jpHl =>
    exact ⟨_, rfl, start.setPc _⟩
  | call => exact ⟨_, rfl, (start.push16 rfl (.head _) (.tail _ (.head _)) _).setPc _⟩
  | push => exact ⟨_, rfl, (start.push8 rfl (List.mem_singleton_self _) _).advance 2⟩
  | pop => exact ⟨_, rfl, ((start.drop8 rfl).setReg (List.mem_singleton_self _) _).advance 2⟩
  | push16 =>
    exact withRegisterPair_within rfl fun _ => (start.push16 rfl (.head _) (.tail _ (.head _)) _).advance 2
  | pop16 =>
    exact withRegisterPair_within rfl fun _ =>
      ((start.drop16 rfl).setPair (List.Subset.refl _) (fun _ => rfl) _).advance 2

/-- The next state of an instruction is within its write set. -/
theorem within_of_exec {i : Instr} {s t : State} (h : exec i s = .next t) : Within (writeSet i s) s t := by
  obtain ⟨u, hnext, hwithin⟩ := exec_within i s
  cases hnext.symm.trans h
  exact hwithin

/-! ### The statements -/

/-- Settles O54: no write set has `IRQP`, and those of `EI`, `DI` and `RETI` alone have `IE`. -/
theorem onlyInterruptControlWritesTheEnable : Obligations.OnlyInterruptControlWritesTheEnable := by
  intro i s t h
  have hwithin := within_of_exec h
  exact ⟨hwithin.irqp, fun hei hdi hreti => hwithin.ie (not_or_intro hei (not_or_intro hdi hreti))⟩

/-- Settles O55: the flags of a write set are the instruction's row of the matrix. -/
theorem flagMatrixIsRespected : Obligations.FlagMatrixIsRespected := by
  intro i s t h
  obtain ⟨hs, hz, ho, hc⟩ := (within_of_exec h).flags
  exact ⟨hs, hz, ho, hc⟩

/-- Settles O56: the bytes of a write set are those the instruction stores to. -/
theorem memoryWrittenOnlyByStores : Obligations.MemoryWrittenOnlyByStores :=
  fun _ _ _ h => (within_of_exec h).mem

/-- Settles O57: the registers of a write set are the instruction's destinations. -/
theorem registersWrittenOnlyAsDestinations : Obligations.RegistersWrittenOnlyAsDestinations := by
  intro i s t h
  have hwithin := within_of_exec h
  exact ⟨hwithin.reg, fun hsp => hwithin.sp (Bool.eq_false_iff.mp hsp)⟩

/-- Settles O60: the write sets of `IN` and `OUT` alone have the ports. -/
theorem onlyPortInstructionsReachThePorts : Obligations.OnlyPortInstructionsReachThePorts := by
  intro i s t h hin hout
  exact (within_of_exec h).ports (not_or_intro (fun ⟨d, p, e⟩ => hin d p e) fun ⟨r, p, e⟩ => hout r p e)

/-- Settles O7: each of the terms names `SP` among its pairs. -/
theorem stackPointerIsNoPairOperand : Obligations.StackPointerIsNoPairOperand := by
  intro s p
  have hsource : Pair.sp ∈ [p, Pair.sp] := .tail _ (.head _)
  exact ⟨rfl, rfl, rfl, rfl, rfl, withRegisterPairs_of_mem hsource s _, rfl, withRegisterPairs_of_mem hsource s _⟩

end Sys2Proof.Machine
end

section
/-! The end of an instruction (10_state.md sections 2 and 4): where a sequential one leaves `PC`, and that a pending request is no
input of any. -/

namespace Sys2Proof.Machine

/-! ### `PC` past the instruction (R26) -/

/-- A well-formed instruction that does not redirect control retires with its encoding's length. -/
theorem exec_advanced {i : Instr} (hi : i.wellFormed = true) (hseq : i.redirects = false) (s : State) :
    ∃ t, exec i s = .next t ∧ Advanced (encode i).length s t := by
  cases i with
  | jmp | jz | jnz | jc | jnc | js | jns | jo | jno | jr | jrz | jrnz | jrc | jrnc | jrs | jrns | jro | jrno | jpHl | call
  | ret | reti => cases hseq
  | mov16 | add16 => exact ⟨_, withRegisterPairs_of_notMem (sp_notMem_pair_iff.mpr hi) s _, .of_pc_eq (by simp)⟩
  | inc16 | dec16 | push16 | pop16 =>
    exact ⟨_, withRegisterPairs_of_notMem (sp_notMem_iff.mpr hi) s _, .of_pc_eq (by simp)⟩
  | ldi16 | inPort => exact ⟨_, rfl, .of_pc_eq (by simp)⟩
  | nop | hlt | ei | di | scf | ccf | cmf | pushf | popf | mov | ldi | ldAbs | ldHl | ldHlD | stAbs | stHl | stHlD | ldz
  | stz | outPort | add | adc | sub | sbc | cmp | and | or | xor | addi | subi | cmpi | andi | ori | xori | inc | dec
  | neg | not | shl | shr | sar | rol | ror | swap | push | pop => exact ⟨_, rfl, .of_pc_eq rfl⟩

/-- Settles O58: such an instruction retires with its own length. -/
theorem sequentialInstructionsAdvanceByTheirLength : Obligations.SequentialInstructionsAdvanceByTheirLength := by
  intro i s t hi hseq h
  obtain ⟨u, hnext, hadvanced⟩ := exec_advanced hi hseq s
  cases hnext.symm.trans h
  exact hadvanced

/-! ### The hidden latch (R35) -/

theorem State.setIrqp_countRead (s : State) (b : Bool) : (s.setIrqp b).countRead = s.countRead.setIrqp b := by
  unfold State.countRead
  cases h : s.ports.attached <;> simp [h]
  rfl

/-- Whether a pair instruction faults does not depend on the latch, so it commutes with it where its effect does. -/
theorem withRegisterPairs_setIrqp {s t t' : State} {b : Bool} (ps : List Pair) (h : t' = t.setIrqp b) :
    ∃ u, withRegisterPairs ps s (.next t) = .next u ∧
      withRegisterPairs ps (s.setIrqp b) (.next t') = .next (u.setIrqp b) := by
  by_cases hsp : Pair.sp ∈ ps
  · exact ⟨_, if_pos hsp, if_pos hsp⟩
  · exact ⟨t, if_neg hsp, h ▸ if_neg hsp⟩

/-- Every instruction commutes with a write of the latch. -/
theorem exec_setIrqp (i : Instr) (s : State) (b : Bool) :
    ∃ t, exec i s = .next t ∧ exec i (s.setIrqp b) = .next (t.setIrqp b) := by
  cases i with
  | inc16 p | dec16 p | push16 p | pop16 p => exact withRegisterPairs_setIrqp _ (by cases p <;> rfl)
  | mov16 pd ps | add16 pd ps => exact withRegisterPairs_setIrqp _ (by cases pd <;> cases ps <;> rfl)
  | ldi16 p => exact ⟨_, rfl, by cases p <;> rfl⟩
  | inPort d port =>
    exact ⟨_, rfl, congrArg (fun u : State => retire 3 (u.setReg d (s.portIn port))) (s.setIrqp_countRead b)⟩
  | nop | hlt | ei | di | scf | ccf | cmf | ret | reti | pushf | popf | jpHl | mov | ldi | ldAbs | ldHl | ldHlD | stAbs
  | stHl | stHlD | ldz | stz | outPort | add | adc | sub | sbc | cmp | and | or | xor | addi | subi | cmpi | andi
  | ori | xori | inc | dec | neg | not | shl | shr | sar | rol | ror | swap | jmp | jz | jnz | jc | jnc | js | jns
  | jo | jno | jr | jrz | jrnz | jrc | jrnc | jrs | jrns | jro | jrno | call | push | pop => exact ⟨_, rfl, rfl⟩

/-- Settles O59: the latch is written before or after the instruction with the same outcome. -/
theorem pendingRequestIsHiddenFromInstructions : Obligations.PendingRequestIsHiddenFromInstructions := by
  intro i s t b h
  obtain ⟨u, hnext, hlatched⟩ := exec_setIrqp i s b
  cases hnext.symm.trans h
  exact hlatched

end Sys2Proof.Machine
end

section
/-! The step (30_encoding.md section 7, 60_exceptions.md): what its instruction part can do, the effect of interrupt entry, and with
them the run states, the invariant and the end of a run. -/

namespace Sys2Proof.Machine

variable {s t u : State} {i : Instr} {rest : List Byte}

/-! ### The instruction part of a step -/

/-- A well-formed instruction leaves `RUN` alone, but for `HLT`, which halts; it never faults (R36, R305). -/
theorem run_of_exec (hi : i.wellFormed = true) (h : exec i s = .next t) :
    t.run = s.run ∨ (i = .hlt ∧ t.run = .halted) := by
  by_cases hhlt : i = .hlt
  · subst hhlt
    have hnext : exec .hlt s = .next ((s.setRun .halted).advance 1) := rfl
    cases hnext.symm.trans h
    exact .inr ⟨rfl, rfl⟩
  · exact .inl ((within_of_exec h).run (not_or_intro hhlt (by simp [hi])))

theorem run_ne_faulted_of_exec (hrun : s.run = .running) (hi : i.wellFormed = true) (h : exec i s = .next t) :
    t.run ≠ .faulted := by
  obtain hsame | ⟨-, hhalted⟩ := run_of_exec hi h
  · simp [hsame, hrun]
  · simp [hhalted]

/-- A core that is not running fetches nothing (R100). -/
theorem instructionPhase_of_not_running (hrun : s.run ≠ .running) : instructionPhase s = .next s := by
  unfold instructionPhase
  cases h : s.run with
  | running => exact absurd h hrun
  | halted | faulted => rfl

/-- A running core runs the instruction it fetched. -/
theorem instructionPhase_of_fetched (hrun : s.run = .running) (h : s.fetched = .instr i rest) :
    instructionPhase s = exec i s := by
  simp [instructionPhase, hrun, execFetched, h]

/-- A running core that fetched no instruction faults. -/
theorem instructionPhase_of_fetched_ne (hrun : s.run = .running) (h : ∀ i rest, s.fetched ≠ .instr i rest) :
    instructionPhase s = .next (s.raiseFault .invalidOpcode) := by
  simp [instructionPhase, hrun, execFetched_of_fetched_ne_instr h]

/-- Everything the instruction part can do: nothing, the fetched instruction, or the fault transition. -/
theorem instructionPhase_cases (s : State) :
    (s.run ≠ .running ∧ instructionPhase s = .next s) ∨
    (s.run = .running ∧ ∃ i rest t, s.fetched = .instr i rest ∧ exec i s = .next t ∧ instructionPhase s = .next t) ∨
    (s.run = .running ∧ instructionPhase s = .next (s.raiseFault .invalidOpcode)) := by
  by_cases hrun : s.run = .running
  · by_cases hfetch : ∃ i rest, s.fetched = .instr i rest
    · obtain ⟨i, rest, hi⟩ := hfetch
      obtain ⟨t, hnext, -⟩ := exec_within i s
      exact .inr (.inl ⟨hrun, i, rest, t, hi, hnext, (instructionPhase_of_fetched hrun hi).trans hnext⟩)
    · exact .inr (.inr ⟨hrun, instructionPhase_of_fetched_ne hrun fun i rest hi => hfetch ⟨i, rest, hi⟩⟩)
  · exact .inl ⟨hrun, instructionPhase_of_not_running hrun⟩

/-! ### The end of a step -/

/-- A step that does not end running ended with its instruction part: interrupt entry leaves the core running (R319). -/
theorem State.finishStep_eq_self_of_not_running (h : t.finishStep.run ≠ .running) : t.finishStep = t := by
  obtain ⟨-, hskip⟩ | ⟨-, hcheck⟩ := t.finishStep_cases
  · exact hskip
  · obtain ⟨-, -, henter⟩ | ⟨-, hstay⟩ := t.checkInterrupt_cases
    · exact absurd rfl (hcheck.trans henter ▸ h)
    · exact hcheck.trans hstay

/-- What interrupt entry does to a state (R319): `PC` saved below `SP`, `IE` and `IRQP` cleared, the core running at the vector. -/
structure EntersInterrupt (t u : State) : Prop where
  ie : u.ie = false
  irqp : u.irqp = false
  run : u.run = .running
  sp : u.sp = t.sp - 2
  high : u.readByte (t.sp - 1) = hiByte t.pc
  low : u.readByte (t.sp - 2) = loByte t.pc
  pc : u.pc = wordOf (u.readByte 0x01FF) (u.readByte 0x01FE)
  flags : u.flags = t.flags
  faultReason : u.faultReason = t.faultReason
  ports : u.ports = t.ports
  frame : RegMemFrame [] [t.sp - 1, t.sp - 2] t u

theorem enterInterrupt_effect (t : State) : EntersInterrupt t t.enterInterrupt := by
  obtain ⟨hsp, hhigh, hlow, hframe, -, -⟩ := push16_effect ((t.setIe false).setIrqp false) t.pc
  exact ⟨rfl, rfl, rfl, hsp, hhigh, hlow, rfl, rfl, rfl, rfl, hframe.reg, hframe.mem⟩

/-! ### The invariant -/

theorem State.Inv.enterInterrupt (h : t.Inv) (hrun : t.run ≠ .faulted) : t.enterInterrupt.Inv := by
  obtain ⟨hwf, -, hreason⟩ := h
  exact ⟨State.push16_wf _ t.pc hwf, nofun, fun _ => hreason hrun⟩

/-- The end of a step keeps the invariant. -/
theorem State.Inv.finishStep (h : t.Inv) : t.finishStep.Inv := by
  obtain ⟨-, hskip⟩ | ⟨hrun, hcheck⟩ := t.finishStep_cases
  · rw [hskip]
    exact h
  · obtain ⟨-, -, henter⟩ | ⟨-, hstay⟩ := t.checkInterrupt_cases
    · rw [hcheck, henter]
      exact h.enterInterrupt hrun
    · rw [hcheck, hstay]
      exact h

/-- A well-formed instruction of a running core keeps the invariant: it does not fault, and records no reason. -/
theorem State.Inv.exec (h : s.Inv) (hrun : s.run = .running) (hi : i.wellFormed = true) (hnext : exec i s = .next t) :
    t.Inv := by
  obtain ⟨hwf, -, hreason⟩ := h
  have hwithin := within_of_exec hnext
  have hkept : t.faultReason = s.faultReason := hwithin.faultReason (by simp [writeSet, hi])
  have hnotFaulted := run_ne_faulted_of_exec hrun hi hnext
  exact ⟨hwithin.wf hwf, fun hfaulted => absurd hfaulted hnotFaulted, fun _ => hkept.trans (hreason (by simp [hrun]))⟩

/-- The fault transition keeps the invariant: it records the reason with the run state (R302, R304). -/
theorem State.Inv.raiseFault (h : s.Inv) : (s.raiseFault .invalidOpcode).Inv :=
  ⟨h.left, fun _ => rfl, fun hn => absurd rfl hn⟩

/-- Settles O17: the instruction part keeps the invariant, whichever it is, and the end of the step does. -/
theorem stepKeepsTheMachineInvariant : Obligations.StepKeepsTheMachineInvariant := by
  intro s u hinv hstep
  obtain ⟨t, hphase, rfl⟩ := step_eq_next_iff.mp hstep
  refine State.Inv.finishStep ?_
  obtain ⟨-, hidle⟩ | ⟨hrun, i, rest, t', hfetch, hexec, hnext⟩ | ⟨-, hraise⟩ := instructionPhase_cases s
  · cases hidle.symm.trans hphase
    exact hinv
  · cases hnext.symm.trans hphase
    obtain ⟨hi, -⟩ := State.opcode_of_fetched hfetch
    exact hinv.exec hrun hi hexec
  · cases hraise.symm.trans hphase
    exact hinv.raiseFault

/-! ### The statements about one step -/

/-- Settles O10: the instruction part gives a next state in each of its cases, and the end of the step is a function. -/
theorem everyStepGivesANextState : Obligations.EveryStepGivesANextState := by
  intro s
  have hphase : ∃ t, instructionPhase s = .next t := by
    obtain ⟨-, hidle⟩ | ⟨-, i, rest, t, -, -, hnext⟩ | ⟨-, hraise⟩ := instructionPhase_cases s
    · exact ⟨s, hidle⟩
    · exact ⟨t, hnext⟩
    · exact ⟨_, hraise⟩
  obtain ⟨t, ht⟩ := hphase
  exact ⟨t.finishStep, step_eq_next_iff.mpr ⟨t, ht, rfl⟩⟩

/-- Settles O9: the step fetches exactly the bytes of the decoded instruction; the instruction does not fault, so the interrupt
check follows. -/
theorem stepRunsDecodedInstruction : Obligations.StepRunsDecodedInstruction := by
  intro s i rest hrun hdecode
  have hfetch := State.fetched_of_decode_four hdecode
  obtain ⟨hi, -⟩ := State.opcode_of_fetched hfetch
  obtain ⟨t, hnext, -⟩ := exec_within i s
  have hnotFaulted := run_ne_faulted_of_exec hrun hi hnext
  have hphase := (instructionPhase_of_fetched hrun hfetch).trans hnext
  obtain ⟨htaken, hnotTaken⟩ := interruptTakenExactlyWhenEnabledAndPending s t hphase hnotFaulted
  refine ⟨t, hnext, ?_⟩
  split
  · next hboth => exact htaken hboth
  · next hnot => exact hnotTaken hnot

/-- Settles O15: the step ends with the entry, whose effect is `EntersInterrupt`. -/
theorem interruptEntrySavesOnlyPc : Obligations.InterruptEntrySavesOnlyPc := by
  intro s t hphase hrun hie hirqp
  obtain ⟨htaken, -⟩ := interruptTakenExactlyWhenEnabledAndPending s t hphase hrun
  have h := enterInterrupt_effect t
  exact ⟨_, htaken ⟨hie, hirqp⟩, h.ie, h.irqp, h.run, h.sp, h.high, h.low, h.pc, h.flags, h.faultReason, h.ports, h.frame⟩

/-- Settles O13: `HLT` retires halted; a halted step is the interrupt check alone. -/
theorem haltedCoreWaitsForTheInterrupt : Obligations.HaltedCoreWaitsForTheInterrupt := by
  refine ⟨⟨rfl, fun s => ⟨(s.setRun .halted).advance 1, rfl, rfl, .of_pc_eq rfl, ⟨fun _ _ => rfl, fun _ _ => rfl⟩, rfl,
    rfl, rfl, rfl, rfl, rfl⟩⟩, fun s hrun => ?_⟩
  have hphase : instructionPhase s = .next s := instructionPhase_of_not_running (by simp [hrun])
  obtain ⟨htaken, hnotTaken⟩ := interruptTakenExactlyWhenEnabledAndPending s s hphase (by simp [hrun])
  refine ⟨fun hie hirqp => ?wakes, fun hmasked => ?waits⟩
  case wakes =>
    have h := enterInterrupt_effect s
    have hresult : s.enterInterrupt.result = .continued := by simp [State.result, h.run]
    exact ⟨_, htaken ⟨hie, hirqp⟩, h.run, hresult, h.ie, h.irqp, h.sp, h.pc, h.high, h.low, h.flags, h.frame⟩
  case waits =>
    have hresult : s.result = .halted := by simp [State.result, hrun]
    exact ⟨hnotTaken (by obtain hie | hirqp := hmasked <;> simp [*]), hresult⟩

/-- Settles O16: each run state's part of `instructionPhase_cases`, then the end of the step, which only wakes. -/
theorem runStateTransitions : Obligations.RunStateTransitions := by
  intro s u hstep
  obtain ⟨t, hphase, rfl⟩ := step_eq_next_iff.mp hstep
  refine ⟨fun hrun => ?faulted, fun hrun => ?halted, fun hrun hend => ?halts, fun hrun hend i rest hdecode => ?faults⟩
  case faulted =>
    cases (instructionPhase_of_not_running (by simp [hrun])).symm.trans hphase
    simp [State.finishStep, hrun]
  case halted =>
    cases (instructionPhase_of_not_running (by simp [hrun])).symm.trans hphase
    obtain ⟨hfaulted, -⟩ | ⟨-, hcheck⟩ := s.finishStep_cases
    · cases hrun.symm.trans hfaulted
    · obtain ⟨hie, hirqp, henter⟩ | ⟨-, hstay⟩ := s.checkInterrupt_cases
      · exact .inl ⟨hie, hirqp, by rw [hcheck, henter, (enterInterrupt_effect s).run]⟩
      · exact .inr (hcheck.trans hstay)
  case halts =>
    have hself := State.finishStep_eq_self_of_not_running (t := t) (by simp [hend])
    rw [hself] at hend
    obtain ⟨hnot, -⟩ | ⟨-, i, rest, t', hfetch, hexec, hnext⟩ | ⟨-, hraise⟩ := instructionPhase_cases s
    · exact absurd hrun hnot
    · cases hnext.symm.trans hphase
      obtain ⟨hi, hopcode⟩ := State.opcode_of_fetched hfetch
      obtain hsame | ⟨rfl, -⟩ := run_of_exec hi hexec
      · cases hend.symm.trans (hsame.trans hrun)
      · exact (Option.some.inj hopcode).symm
    · cases hraise.symm.trans hphase
      cases hend
  case faults =>
    have hself := State.finishStep_eq_self_of_not_running (t := t) (by simp [hend])
    rw [hself] at hend
    have hfetch := State.fetched_of_decode_four hdecode
    obtain ⟨hi, -⟩ := State.opcode_of_fetched hfetch
    exact run_ne_faulted_of_exec hrun hi ((instructionPhase_of_fetched hrun hfetch).symm.trans hphase) hend

/-- Settles O53: `EI` is fetched, sets `IE`, and the check of the same step enters the interrupt. -/
theorem enableTakesAPendingRequestAtOnce : Obligations.EnableTakesAPendingRequestAtOnce := by
  intro s hrun hop hirqp
  have hfetch : s.fetched = .instr .ei [] := by
    have hrow : opMap 0x02 = some (.imp .ei) := rfl
    have hbytes : s.fetchBytes = encode .ei ++ [] := by
      simp only [State.fetchBytes, hop, hrow, Shape.length, State.bytesAt, encode, List.append_nil]
    exact decode_eq_instr_iff.mpr ⟨rfl, hbytes⟩
  have hphase : instructionPhase s = .next ((s.setIe true).advance 1) := instructionPhase_of_fetched hrun hfetch
  obtain ⟨htaken, -⟩ := interruptTakenExactlyWhenEnabledAndPending s _ hphase (by simp [hrun])
  have h := enterInterrupt_effect ((s.setIe true).advance 1)
  exact ⟨_, htaken ⟨rfl, hirqp⟩, h.ie, h.irqp, h.sp, h.high, h.low, h.pc, h.run⟩

/-! ### The end of a run -/

/-- A faulted core, or a halted one with interrupts masked, steps to itself (R303, R358). -/
theorem step_of_runOver (h : s.runOver) : step s = .next s := by
  obtain hrun | ⟨hrun, hie⟩ := h
  · refine step_eq_next_iff.mpr ⟨s, instructionPhase_of_not_running (by simp [hrun]), ?_⟩
    simp [State.finishStep, hrun]
  · obtain ⟨-, hhalted⟩ := haltedCoreWaitsForTheInterrupt
    obtain ⟨-, hwaits⟩ := hhalted s hrun
    exact (hwaits (.inl hie)).left

/-- A run of one step more goes on from the state after its first step. -/
theorem run_succ_of_step {M : Host.Core} {x y : M.State} (h : M.step x = .next y) (n : Nat) :
    M.run (n + 1) x = M.run n y := by
  simp only [Host.Core.run, h]

/-- Settles O20: by induction on the number of steps, each of which gives the same state. -/
theorem finishedRunNeverMovesAgain : Obligations.FinishedRunNeverMovesAgain := by
  intro s n hover
  induction n with
  | zero => rfl
  | succ n ih =>
    have hstep : Sys2Proof.core.step s = .next s := step_of_runOver hover
    exact (run_succ_of_step hstep n).trans ih

/-- Settles O12: the step of a finished run, and the host's actions one by one: reset alone writes `RUN`. -/
theorem faultedCoreIsFrozen : Obligations.FaultedCoreIsFrozen := by
  intro s hrun
  have hresult : s.result = .faulted s.faultReason := by simp [State.result, hrun]
  refine ⟨step_of_runOver (.inl hrun), hresult, rfl, fun a hleft => ?_, fun _ _ => ⟨rfl, rfl⟩⟩
  cases a with
  | reset initPc initSp => exact ⟨initPc, initSp, rfl⟩
  | raiseInterrupt | attachPorts => exact absurd hrun hleft
  | load a bytes =>
    have hkept : (s.load a bytes).run = s.run := by rw [State.load, State.storeBytes_eq]
    exact absurd (hkept.trans hrun) hleft

end Sys2Proof.Machine
end

section
/-! The host's side (10_state.md sections 5 and 6, 70_reset_and_hazards.md): the invariant under each action, reset, and what a load
leaves in memory. -/

namespace Sys2Proof.Machine

/-! ### The invariant -/

/-- Settles O18: nothing has been written, and the core runs. -/
theorem resetStateMeetsTheInvariant : Obligations.ResetStateMeetsTheInvariant :=
  ⟨Memory.wf_reset, nofun, fun _ => rfl⟩

/-- Settles O19: reset writes `RUN` and `FAULT_REASON` together, and a load writes memory byte by byte. -/
theorem hostActionsKeepTheMachineInvariant : Obligations.HostActionsKeepTheMachineInvariant := by
  rintro s a ⟨hwf, hfaulted, hnotFaulted⟩
  cases a with
  | reset => exact ⟨hwf, nofun, fun _ => rfl⟩
  | raiseInterrupt | attachPorts => exact ⟨hwf, hfaulted, hnotFaulted⟩
  | load a bytes =>
    have hload : s.hostAct (.load a bytes) = { s with mem := (s.storeBytes a bytes).mem } := s.storeBytes_eq a bytes
    rw [hload]
    exact ⟨s.storeBytes_wf a bytes hwf, hfaulted, hnotFaulted⟩

/-- Settles O21: `hostReset` lists every field. -/
theorem hostResetSetsTheCoreState : Obligations.HostResetSetsTheCoreState := by
  intro s initPc initSp
  have hreg : ∀ r, (s.hostReset initPc initSp).reg r = 0 := fun r => by cases r <;> rfl
  exact ⟨_, rfl, hreg, rfl, rfl, rfl, rfl, rfl, rfl, rfl, rfl, rfl⟩

/-! ### The load (R356) -/

/-- The address of an image's byte `k + 1` is that of byte `k` of the image after its first byte. -/
theorem add_ofNat_succ (a : Word) (k : Nat) : a + BitVec.ofNat 16 (k + 1) = a + 1 + BitVec.ofNat 16 k := by
  bv_omega

/-- A load leaves every byte at which no byte of the image lands. -/
theorem storeBytes_readByte_of_ne (s : State) (a : Word) (bytes : List Byte) (x : Word)
    (hx : ∀ k, k < bytes.length → x ≠ a + BitVec.ofNat 16 k) : (s.storeBytes a bytes).readByte x = s.readByte x := by
  induction bytes generalizing s a with
  | nil => rfl
  | cons v rest ih =>
    have hne : x ≠ a := by simpa using hx 0 (Nat.zero_lt_succ _)
    have hrest : ∀ k, k < rest.length → x ≠ a + 1 + BitVec.ofNat 16 k := fun k hk =>
      add_ofNat_succ a k ▸ hx (k + 1) (Nat.succ_lt_succ hk)
    rw [State.storeBytes, ih (s.writeByte a v) (a + 1) hrest, State.writeByte_readByte, if_neg hne]

/-- An image that fits into memory is read back byte by byte: no later byte lands on an earlier one. -/
theorem storeBytes_readByte (s : State) (a : Word) (bytes : List Byte) (hlength : bytes.length ≤ 65536) (k : Nat)
    (hk : k < bytes.length) : (s.storeBytes a bytes).readByte (a + BitVec.ofNat 16 k) = bytes[k] := by
  induction bytes generalizing s a k with
  | nil => cases hk
  | cons v rest ih =>
    rw [List.length_cons] at hlength
    cases k with
    | zero =>
      have hlater : ∀ j, j < rest.length → a + BitVec.ofNat 16 0 ≠ a + 1 + BitVec.ofNat 16 j := by
        intro j hj
        bv_omega
      rw [State.storeBytes, storeBytes_readByte_of_ne _ _ _ _ hlater]
      simp
    | succ j =>
      rw [State.storeBytes, add_ofNat_succ]
      exact ih (s.writeByte a v) (a + 1) (by omega) j (Nat.lt_of_succ_lt_succ hk)

/-- Settles O22: the image is read back, no other byte changes, and a load touches memory alone. -/
theorem loadedImageReadsBack : Obligations.LoadedImageReadsBack := fun s a bytes hlength =>
  ⟨_, rfl, storeBytes_readByte s a bytes hlength, storeBytes_readByte_of_ne s a bytes, s.storeBytes_eq a bytes⟩

end Sys2Proof.Machine
end

section
/-! Signed and unsigned readings of the flags (41_alu_arith_logic.md sections 1 and 2): overflow as true signed overflow, the order
that a compare shows, and the round trip of an addition and a subtraction. -/

namespace Sys2Proof.Machine

/-! ### A byte's sign -/

/-- Two sign bits agree when both signed values are negative or neither is. -/
theorem msb_eq_msb_iff (a b : Byte) : a.msb = b.msb ↔ (a.toInt < 0 ↔ b.toInt < 0) := by
  rw [BitVec.msb_eq_toInt, BitVec.msb_eq_toInt, decide_eq_decide]

/-- A byte's signed value is in its range, and the unsigned value is it modulo 256. -/
theorem byte_toInt (a : Byte) : -128 ≤ a.toInt ∧ a.toInt ≤ 127 ∧ (a.toNat : Int) = a.toInt % 256 := by
  have hlow : -2 ^ 7 ≤ a.toInt := BitVec.le_toInt a
  have hhigh : a.toInt < 2 ^ 7 := BitVec.toInt_lt
  have hcond := BitVec.toInt_eq_toNat_cond a
  have hbyte : a.toNat < 256 := a.isLt
  refine ⟨by omega, by omega, ?_⟩
  split at hcond <;> omega

/-- The overflow condition of a sum is its signed overflow, by the signs of the operands and of the result. -/
theorem sum_overflow_iff {a b r : Byte} {cin : Bool} (hvalue : r.toNat = (a.toNat + b.toNat + cin.toNat) % 256) :
    (a.msb = b.msb ∧ r.msb ≠ a.msb) ↔
      (a.toInt + b.toInt + (cin.toNat : Int) < -128 ∨ 127 < a.toInt + b.toInt + (cin.toNat : Int)) := by
  have hcin : cin.toNat ≤ 1 := Bool.toNat_le cin
  have ha := byte_toInt a
  have hb := byte_toInt b
  have hr := byte_toInt r
  rw [Ne, msb_eq_msb_iff a b, msb_eq_msb_iff r a]
  omega

/-- The overflow condition of a difference is its signed overflow. -/
theorem difference_overflow_iff {a b r : Byte} {bin : Bool}
    (hvalue : (r.toNat : Int) = ((a.toNat : Int) - b.toNat - bin.toNat) % 256) :
    (a.msb ≠ b.msb ∧ r.msb ≠ a.msb) ↔
      (a.toInt - b.toInt - (bin.toNat : Int) < -128 ∨ 127 < a.toInt - b.toInt - (bin.toNat : Int)) := by
  have hbin : bin.toNat ≤ 1 := Bool.toNat_le bin
  have ha := byte_toInt a
  have hb := byte_toInt b
  have hr := byte_toInt r
  rw [Ne, Ne, msb_eq_msb_iff a b, msb_eq_msb_iff r a]
  omega

/-! ### The statements -/

/-- Settles O34: the overflow of `add8` is decided on the sum's byte. -/
theorem additionOverflowIsSignedOverflow : Obligations.AdditionOverflowIsSignedOverflow := fun a b cin =>
  have hsum := IsSum.add8 a b cin
  hsum.overflow.trans (sum_overflow_iff hsum.value)

/-- Settles O35: the overflow of `sub8` is decided on the difference's byte. -/
theorem subtractionOverflowIsSignedOverflow : Obligations.SubtractionOverflowIsSignedOverflow := fun a b bin =>
  have hdiff := IsDifference.sub8 a b bin
  hdiff.overflow.trans (difference_overflow_iff hdiff.value)

/-- Settles O36: the difference is 0 for equal bytes, borrows below, and its sign corrected by its overflow is that of the true
difference. -/
theorem compareFlagsOrderTheOperands : Obligations.CompareFlagsOrderTheOperands := by
  intro d r s
  obtain ⟨t, hnext, hdiff, -⟩ := compareAlu_sub8_effect (s.reg d) (s.reg r) 2 s
  refine ⟨t, hnext, ?zero, ?borrow, ?sign⟩
  case zero => exact hdiff.zeroSign.zero.trans sub_eq_zero
  case borrow => simpa using hdiff.borrow
  case sign =>
    have hvalue := hdiff.value
    rw [Ne, Bool.eq_iff_iff, hdiff.zeroSign.sign, hdiff.overflow, difference_overflow_iff hvalue]
    rw [Bool.toNat_false] at hvalue ⊢
    have hd := byte_toInt (s.reg d)
    have hr := byte_toInt (s.reg r)
    omega

/-- Settles O37: the subtraction's operands are the sum and the same addend. -/
theorem subtractionUndoesAddition : Obligations.SubtractionUndoesAddition := by
  intro d r s hne
  obtain ⟨t, hadd, hsum, honly⟩ := writeAlu_add8_effect d (s.reg d) (s.reg r) false 2 s
  have haddend : t.reg r = s.reg r := honly.frame.reg r (by simpa using hne.symm)
  obtain ⟨u, hsub, hdiff, -⟩ := writeAlu_sub8_effect d (t.reg d) (t.reg r) false 2 t
  rw [haddend] at hdiff
  have hvalueSum := hsum.value
  have hvalueDiff := hdiff.value
  rw [Bool.toNat_false] at hvalueSum hvalueDiff
  have hcarrySum : t.flags.c = true ↔ 255 < (s.reg d).toNat + (s.reg r).toNat := by simpa using hsum.carry
  have hcarry : u.flags.c = true ↔ 255 < (s.reg d).toNat + (s.reg r).toNat := by
    rw [hdiff.borrow, Bool.toNat_false]
    bv_omega
  refine ⟨t, u, hadd, hsub, ?value, ?same, ?noCarry⟩
  case value => bv_omega
  case same => exact Bool.eq_iff_iff.mpr (hcarry.trans hcarrySum.symm)
  case noCarry => rw [← Bool.not_eq_true, hcarry, Nat.not_lt]

end Sys2Proof.Machine
end

section
/-! Shifts, and a rotate undone (42_alu_shift_rotate_16bit.md section 1). -/

namespace Sys2Proof.Machine

/-! ### The shifts as numbers (R201 to R203) -/

theorem shl8_value_toNat (a : Byte) (f : Flags) : (shl8 a f).value.toNat = 2 * a.toNat % 256 := by
  calc (shl8 a f).value.toNat
    _ = (a.extractLsb' 0 7).toNat * 2 ^ 1 + (0#1).toNat := toNat_append_eq_mul_add ..
    _ = a.toNat / 2 ^ 0 % 2 ^ 7 * 2 ^ 1 + 0 := by rw [toNat_extractLsb'_eq_div_mod, BitVec.toNat_zero]
    _ = 2 * a.toNat % 256 := by omega

theorem shr8_value_toNat (a : Byte) (f : Flags) : (shr8 a f).value.toNat = a.toNat / 2 := by
  have hbyte : a.toNat < 256 := a.isLt
  calc (shr8 a f).value.toNat
    _ = (0#1).toNat * 2 ^ 7 + (a.extractLsb' 1 7).toNat := toNat_append_eq_mul_add ..
    _ = 0 * 2 ^ 7 + a.toNat / 2 ^ 1 % 2 ^ 7 := by rw [toNat_extractLsb'_eq_div_mod, BitVec.toNat_zero]
    _ = a.toNat / 2 := by omega

/-- `SAR` keeps bit 7, whose weight is 128 (R203). -/
theorem sar8_value_toNat (a : Byte) (f : Flags) :
    (sar8 a f).value.toNat = a.toNat / 2 + 128 * (a.toNat / 128) := by
  have hbyte : a.toNat < 256 := a.isLt
  calc (sar8 a f).value.toNat
    _ = (BitVec.ofBool (a.getLsbD 7)).toNat * 2 ^ 7 + (a.extractLsb' 1 7).toNat := toNat_append_eq_mul_add ..
    _ = a.toNat / 2 ^ 7 % 2 * 2 ^ 7 + a.toNat / 2 ^ 1 % 2 ^ 7 := by
      rw [toNat_extractLsb'_eq_div_mod, BitVec.toNat_ofBool, toNat_getLsbD]
    _ = a.toNat / 2 + 128 * (a.toNat / 128) := by omega

/-- A shift result written back (R200). -/
theorem writeAlu_shifted_effect (d : Reg) (r : Byte) (out : Bool) (len : Nat) (s : State) :
    ∃ t, writeAlu d (shifted r out s.flags) len s = .next t ∧ t.reg d = r ∧
      ShiftFlags (t.reg d) out s.flags t.flags ∧ RegisterOnly [d] len s t := by
  obtain ⟨t, hnext, hvalue, hflags, honly⟩ := writeAlu_effect d (shifted r out s.flags) len s
  exact ⟨t, hnext, hvalue, hvalue ▸ hflags ▸ .shifted .., honly⟩

theorem bool_toNat_injective : Function.Injective Bool.toNat := by decide

/-- Registers that read alike are the same. -/
theorem regs_eq_of_reg_eq {s t : State} (h : ∀ r, t.reg r = s.reg r) : t.regs = s.regs :=
  (Regs.mk.injEq ..).mpr ⟨h .r0, h .r1, h .r2, h .r3, h .r4, h .r5, h .r6, h .r7⟩

/-! ### The statements -/

/-- Settles O38: each shift by its value, the bit shifted out by its definition. -/
theorem shiftInstructions : Obligations.ShiftInstructions := by
  refine ⟨fun d s => ⟨rfl, ?shl⟩, fun d s => ⟨rfl, ?shr⟩, fun d s => ⟨rfl, ?sar⟩⟩
  case shl =>
    obtain ⟨t, hnext, hvalue, hflags, honly⟩ := writeAlu_shifted_effect d _ ((s.reg d).getLsbD 7) 2 s
    exact ⟨t, hnext, hvalue ▸ shl8_value_toNat (s.reg d) s.flags, hflags, honly⟩
  case shr =>
    obtain ⟨t, hnext, hvalue, hflags, honly⟩ := writeAlu_shifted_effect d _ ((s.reg d).getLsbD 0) 2 s
    exact ⟨t, hnext, hvalue ▸ shr8_value_toNat (s.reg d) s.flags, hflags, honly⟩
  case sar =>
    obtain ⟨t, hnext, hvalue, hflags, honly⟩ := writeAlu_shifted_effect d _ ((s.reg d).getLsbD 0) 2 s
    exact ⟨t, hnext, hvalue ▸ sar8_value_toNat (s.reg d) s.flags, hflags, honly⟩

/-- Settles O40: `ROR` reads the nine bits that `ROL` wrote, so the two 9-bit equations give the first nine back. -/
theorem rotateRightUndoesRotateLeft : Obligations.RotateRightUndoesRotateLeft := by
  intro d s
  obtain ⟨hrol, hror, -⟩ := rotateAndSwapInstructions
  obtain ⟨-, t, hleft, hnineLeft, -, honlyLeft⟩ := hrol d s
  obtain ⟨-, u, hright, hnineRight, -, honlyRight⟩ := hror d t
  have hbefore : s.flags.c.toNat ≤ 1 := Bool.toNat_le _
  have hafter : u.flags.c.toNat ≤ 1 := Bool.toNat_le _
  have hvalue : u.reg d = s.reg d := BitVec.eq_of_toNat_eq (by omega)
  have hreg : ∀ q, u.reg q = s.reg q := by
    intro q
    by_cases hq : q = d
    · rw [hq, hvalue]
    · have hother : q ∉ [d] := by simpa using hq
      rw [honlyRight.frame.reg q hother, honlyLeft.frame.reg q hother]
  exact ⟨t, u, hleft, hright, regs_eq_of_reg_eq hreg, bool_toNat_injective (by omega)⟩

end Sys2Proof.Machine
end

section
/-! Pairs (40_data_movement.md, 42_alu_shift_rotate_16bit.md section 2, 44_stack.md): the pair as its two registers, 16-bit results
written back, and the stack instructions on pairs and flags. -/

namespace Sys2Proof.Machine

/-! ### A pair of general registers -/

theorem sp_notMem_of_ne {p : Pair} (hp : p ≠ .sp) : Pair.sp ∉ [p] := sp_notMem_iff.mpr (isRegisterPair_iff.mpr hp)

theorem sp_notMem_pair_of_ne {pd ps : Pair} (hd : pd ≠ .sp) (hs : ps ≠ .sp) : Pair.sp ∉ [pd, ps] := by
  simp [hd.symm, hs.symm]

/-- A pair's word has its registers as bytes, the high one first (R22). -/
theorem State.pair_of_ne {p : Pair} (hp : p ≠ .sp) (s : State) :
    s.pair p = wordOf (s.reg (pairHigh p)) (s.reg (pairLow p)) := by
  cases p with
  | sp => exact absurd rfl hp
  | bc | de | hl => rfl

theorem ControlSame.trans {s t u : State} (h : ControlSame s t) (h' : ControlSame t u) : ControlSame s u :=
  ⟨h'.ie.trans h.ie, h'.irqp.trans h.irqp, h'.run.trans h.run, h'.faultReason.trans h.faultReason,
    h'.ports.trans h.ports⟩

theorem WideFlags.flags16 (r : Word) (f : Flags) : WideFlags r f (flags16 r f) where
  zero := decide_eq_true_iff
  sign := by
    have hmsb : r.msb = true ↔ 2 ^ 16 ≤ 2 * r.toNat := BitVec.msb_eq_true_iff_two_mul_ge
    exact hmsb.trans (by omega)
  carry := rfl
  overflow := rfl

/-- A 16-bit result written to a pair of general registers with its flags (R212). -/
theorem writeAlu16_effect {p : Pair} (hp : p ≠ .sp) (r : Word) (len : Nat) (s : State) :
    ∃ t, writeAlu16 p r len s = .next t ∧ t.pair p = r ∧ WideFlags (t.pair p) s.flags t.flags ∧
      RegisterOnly (pairRegs p) len s t := by
  have hpair : (((s.setPair p r).setFlags (flags16 r s.flags)).advance len).pair p = r :=
    (by cases p <;> rfl : _ = (s.setPair p r).pair p).trans (s.setPair_pair p r)
  have hframe := RegMemFrame.setPair s p r
  have hcontrol := ControlSame.setPair s p r
  refine ⟨_, rfl, hpair, hpair.symm ▸ .flags16 r s.flags, .advance ⟨hframe.reg, hframe.mem⟩ ?stack ?control ?pc⟩
  case stack => exact State.setPair_sp_of_ne s p r hp
  case control => exact ⟨hcontrol.ie, hcontrol.irqp, hcontrol.run, hcontrol.faultReason, hcontrol.ports⟩
  case pc => exact State.setPair_pc s p r

/-! ### Copies and arithmetic -/

/-- Settles O27: `MOV16` is a pair write of the source pair's word. -/
theorem copyPair : Obligations.CopyPair := by
  refine fun pd ps s => ⟨rfl, fun hd hs => ?_⟩
  obtain ⟨t, hnext, hhigh, hlow, hflags, honly⟩ := retire_setPair_effect hd (s.pair ps) 2 s
  have hpair : t.pair pd = s.pair ps := by rw [State.pair_of_ne hd, hhigh, hlow, wordOf_hiByte_loByte]
  exact ⟨t, (withRegisterPairs_of_notMem (sp_notMem_pair_of_ne hd hs) s _).trans hnext, hpair, hflags, honly⟩

/-- Settles O41: each instruction writes its 16-bit result back; to subtract 1 modulo 65536 is to add 65535. -/
theorem wideArithmetic : Obligations.WideArithmetic := by
  refine ⟨fun p s => ⟨rfl, fun hp => ?inc⟩, fun p s => ⟨rfl, fun hp => ?dec⟩, fun pd ps s => ⟨rfl, fun hd hs => ?add⟩⟩
  case inc =>
    obtain ⟨t, hnext, hpair, hflags, honly⟩ := writeAlu16_effect hp (s.pair p + 1) 2 s
    have hexec := (withRegisterPairs_of_notMem (sp_notMem_of_ne hp) s _).trans hnext
    exact ⟨t, hexec, hpair ▸ BitVec.toNat_add .., hflags, honly⟩
  case dec =>
    obtain ⟨t, hnext, hpair, hflags, honly⟩ := writeAlu16_effect hp (s.pair p - 1) 2 s
    have hexec := (withRegisterPairs_of_notMem (sp_notMem_of_ne hp) s _).trans hnext
    have hvalue : (s.pair p - 1).toNat = ((s.pair p).toNat + 65535) % 65536 := by bv_omega
    exact ⟨t, hexec, hpair ▸ hvalue, hflags, honly⟩
  case add =>
    obtain ⟨t, hnext, hpair, hflags, honly⟩ := writeAlu16_effect hd (s.pair pd + s.pair ps) 2 s
    have hexec := (withRegisterPairs_of_notMem (sp_notMem_pair_of_ne hd hs) s _).trans hnext
    exact ⟨t, hexec, hpair ▸ BitVec.toNat_add .., hflags, honly⟩

/-! ### Pairs on the stack -/

/-- Settles O48: `PUSH16` is a push of the pair's word, `POP16` a pair write of the word popped. -/
theorem pushAndPopPair : Obligations.PushAndPopPair := by
  refine ⟨fun p s => ⟨rfl, fun hp => ?push⟩, fun p s => ⟨rfl, fun hp => ?pop⟩⟩
  case push =>
    obtain ⟨hsp, hhigh, hlow, hframe, hflags, hcontrol⟩ := push16_effect s (s.pair p)
    have hword := State.pair_of_ne hp s
    have hhighReg : hiByte (s.pair p) = s.reg (pairHigh p) := by rw [hword, hiByte_wordOf]
    have hlowReg : loByte (s.pair p) = s.reg (pairLow p) := by rw [hword, loByte_wordOf]
    exact ⟨_, withRegisterPairs_of_notMem (sp_notMem_of_ne hp) s _, hsp, hhigh.trans hhighReg, hlow.trans hlowReg,
      hframe.advance, hflags, hcontrol.advance, .of_pc_eq rfl⟩
  case pop =>
    obtain ⟨hsp, -, -, hcontrol⟩ := drop16_effect s
    obtain ⟨t, hnext, hhigh, hlow, hflags, honly⟩ := retire_setPair_effect hp s.top16 2 s.drop16
    rw [State.top16_eq, hiByte_wordOf] at hhigh
    rw [State.top16_eq, loByte_wordOf] at hlow
    exact ⟨t, (withRegisterPairs_of_notMem (sp_notMem_of_ne hp) s _).trans hnext, honly.sp.trans hsp, hhigh, hlow,
      ⟨honly.frame.reg, honly.frame.mem⟩, hflags, hcontrol.trans honly.control, honly.pc⟩

/-- Settles O50: the bytes popped are the two pushed, the low one first. -/
theorem popPairUndoesPushPair : Obligations.PopPairUndoesPushPair := by
  intro p q s hp hq
  obtain ⟨hpush, hpop⟩ := pushAndPopPair
  obtain ⟨t, hpushed, hspPush, hhighPush, hlowPush, hframePush, -, -, -⟩ := (hpush p s).right hp
  obtain ⟨u, hpopped, hspPop, hhighPop, hlowPop, hframePop, -, -, -⟩ := (hpop q t).right hq
  have habove : s.sp - 2 + 1 = s.sp - 1 := by bv_omega
  rw [hspPush, habove, hhighPush] at hhighPop
  rw [hspPush, hlowPush] at hlowPop
  refine ⟨t, u, hpushed, hpopped, ?pair, ?sp, ?others⟩
  case pair => rw [State.pair_of_ne hq, State.pair_of_ne hp, hhighPop, hlowPop]
  case sp => rw [hspPop, hspPush, BitVec.sub_add_cancel]
  case others => exact fun r hr => (hframePop.reg r hr).trans (hframePush.reg r List.not_mem_nil)

/-- Settles O46: the word popped is the address pushed. -/
theorem returnUndoesCall : Obligations.ReturnUndoesCall := by
  intro a s
  obtain ⟨hret, -⟩ := returnsPopTheProgramCounter
  obtain ⟨-, t, hcall, -, hspCall, hhigh, hlow, hframeCall, hflagsCall, hcontrolCall⟩ := callPushesTheReturnAddress a s
  obtain ⟨-, u, hreturn, hpc, hspRet, hframeRet, hflagsRet, hcontrolRet⟩ := hret t
  have habove : s.sp - 2 + 1 = s.sp - 1 := by bv_omega
  rw [hspCall, habove, hhigh, hlow, wordOf_hiByte_loByte] at hpc
  have hreg : ∀ r, u.reg r = s.reg r := fun r =>
    (hframeRet.reg r List.not_mem_nil).trans (hframeCall.reg r List.not_mem_nil)
  have hsp : u.sp = s.sp := by rw [hspRet, hspCall, BitVec.sub_add_cancel]
  exact ⟨t, u, hcall, hreturn, hpc, hsp, regs_eq_of_reg_eq hreg, hflagsRet.trans hflagsCall,
    hcontrolCall.trans hcontrolRet⟩

/-! ### Flags on the stack -/

/-- The flags byte weighs each flag by its bit position (R27). -/
theorem Flags.image_toNat (f : Flags) :
    f.image.toNat = 128 * f.s.toNat + 64 * f.z.toNat + 4 * f.o.toNat + f.c.toNat := by
  simp only [Flags.image, toNat_append_eq_mul_add, BitVec.toNat_ofBool, BitVec.toNat_zero]
  omega

/-- Settles O49: `PUSHF` is a push of the flags byte, `POPF` loads the flags at their positions. -/
theorem pushAndPopFlags : Obligations.PushAndPopFlags := by
  refine ⟨fun s => ⟨rfl, ?pushf⟩, fun s => ⟨rfl, ?popf⟩⟩
  case pushf =>
    obtain ⟨t, hnext, hsp, hbyte, heffects⟩ := retire_push8_effect s.flags.image 1 s
    exact ⟨t, hnext, hsp, hbyte ▸ s.flags.image_toNat, heffects⟩
  case popf =>
    exact ⟨(s.drop8.setFlags (Flags.ofImage s.top8)).advance 1, rfl, rfl, rfl, rfl, rfl, rfl,
      ⟨fun _ _ => rfl, fun _ _ => rfl⟩, ⟨rfl, rfl, rfl, rfl, rfl⟩, .of_pc_eq rfl⟩

end Sys2Proof.Machine
end

section
/-! Relative jumps and the assembler's offset (43_control_flow.md section 2), ports (40_data_movement.md), and the flag and
interrupt-control instructions (45_flags_interrupt_system.md). -/

namespace Sys2Proof.Machine

/-! ### Relative jumps -/

/-- An offset byte in range stands for the distance it was made from (R10, R115). -/
theorem sext16_ofInt {dist : Int} (hlow : -128 ≤ dist) (hhigh : dist ≤ 127) :
    sext16 (BitVec.ofInt 8 dist) = BitVec.ofInt 16 dist := by
  have hint : (BitVec.ofInt 8 dist).toInt = dist :=
    BitVec.toInt_ofInt_eq_self (by decide) (by omega) (by omega)
  exact congrArg (BitVec.ofInt 16) hint

/-- Settles O8: the offset byte stands for the distance from the following instruction to the target. -/
theorem assembledOffsetReachesTarget : Obligations.AssembledOffsetReachesTarget := by
  intro s target off hoff
  simp only [relOffset, Option.ite_none_right_eq_some, Option.some.injEq] at hoff
  obtain ⟨⟨hlow, hhigh⟩, rfl⟩ := hoff
  have hdist := (sext16_ofInt hlow hhigh).trans BitVec.ofInt_toInt
  refine ⟨s.setPc (s.relTarget _), rfl, ?_⟩
  calc s.pc + 2 + sext16 (BitVec.ofInt 8 (target - (s.pc + 2)).toInt)
    _ = s.pc + 2 + (target - (s.pc + 2)) := by rw [hdist]
    _ = target := by bv_omega

/-- Settles O43: each conditional branch is `jumpIf` with the predicate of one flag; `JR`'s predicate is always true. -/
theorem relativeJumps : Obligations.RelativeJumps := by
  refine ⟨fun _ => ⟨rfl, rfl, rfl, rfl, rfl, rfl, rfl, rfl, rfl⟩, ?_⟩
  rintro off s target rfl
  exact ⟨jumpIf_eq_next (cond := .always) (P := True) (iff_of_true rfl trivial) _ 2,
    jumpIf_eq_next (cond := .z) Iff.rfl _ 2, jumpIf_eq_next (cond := .nz) (Bool.not_eq_true' s.flags.z).to_iff _ 2,
    jumpIf_eq_next (cond := .c) Iff.rfl _ 2, jumpIf_eq_next (cond := .nc) (Bool.not_eq_true' s.flags.c).to_iff _ 2,
    jumpIf_eq_next (cond := .s) Iff.rfl _ 2, jumpIf_eq_next (cond := .ns) (Bool.not_eq_true' s.flags.s).to_iff _ 2,
    jumpIf_eq_next (cond := .o) Iff.rfl _ 2, jumpIf_eq_next (cond := .no) (Bool.not_eq_true' s.flags.o).to_iff _ 2⟩

/-! ### Ports -/

/-- An attached capability counts the read; a detached one does not (R70). -/
theorem State.countRead_ports (s : State) :
    s.countRead.ports = { s.ports with reads := s.ports.reads + if s.ports.attached = true then 1 else 0 } := by
  unfold State.countRead
  split <;> rfl

/-- Settles O28: `IN` is a counted read and a register write, `OUT` one more event. -/
theorem portInstructions : Obligations.PortInstructions := by
  refine ⟨fun d port s => ⟨rfl, ?input⟩, fun r port s => ⟨rfl, ?output⟩⟩
  case input =>
    obtain ⟨t, hnext, hvalue, hflags, honly⟩ := retire_setReg_effect d (s.portIn port) 3 s.countRead
    have hframe : RegMemFrame [d] [] s t :=
      ⟨fun q hq => (honly.frame.reg q hq).trans (s.countRead_reg q),
        fun x hx => (honly.frame.mem x hx).trans (s.countRead_readByte x)⟩
    have hcontrol := honly.control
    exact ⟨t, hnext, hvalue, hcontrol.ports.trans s.countRead_ports, hflags.trans s.countRead_flags, hframe,
      honly.sp.trans s.countRead_sp, hcontrol.ie.trans s.countRead_ie, hcontrol.irqp.trans s.countRead_irqp,
      hcontrol.run.trans s.countRead_run, hcontrol.faultReason.trans s.countRead_faultReason,
      honly.pc.trans (by rw [s.countRead_pc])⟩
  case output =>
    exact ⟨(s.portOut port (s.reg r)).advance 3, rfl, rfl, rfl, ⟨fun _ _ => rfl, fun _ _ => rfl⟩, rfl, rfl, rfl, rfl,
      rfl, .of_pc_eq rfl⟩

/-! ### Flag and interrupt control -/

/-- Settles O51: the three retire with their write of `C`. -/
theorem carryInstructions : Obligations.CarryInstructions := ⟨rfl, rfl, rfl, fun _ => ⟨rfl, rfl, rfl⟩⟩

/-- Settles O52: the three retire with their write of `IE`, or none. -/
theorem interruptEnableAndNop : Obligations.InterruptEnableAndNop := ⟨rfl, rfl, rfl, fun _ => ⟨rfl, rfl, rfl⟩⟩

end Sys2Proof.Machine
end
